-- ==== Sys2Proof/Word.lean ====
section
/-!
DEFINITION. The words of the machine (00_scope.md rule R10): a byte is 8 bits, a word is 16 bits, bit 0 is
the least significant bit, and arithmetic on either wraps (R196). The field, byte-order and sign helpers stand in
Sys2Proof/Decode.lean.
-/

namespace Sys2Proof

/-- 8 bits: a register, a memory cell, an immediate (R10). -/
abbrev Byte := BitVec 8

/-- 16 bits: an address, SP, pc, a register pair (R10). -/
abbrev Word := BitVec 16

end Sys2Proof
end

