-- ==== Sys2Proof/Config.lean ====
section
/-!
DEFINITION. The parameters the spec leaves to the machine's builder (00_scope.md rule R9). Their recommended values
stand in Sys2Proof/Machine/Params.lean; a step takes the whole record as an argument, and the decoder STOP_LEN alone,
so that a statement can be made for every value of them. The other two parameters, INIT_MEM and FB_INIT, are the
arguments of `Machine.State.resetWith`.
-/

namespace Sys2Proof

/-- The values of STOP_LEN (R9). -/
inductive StopLength where
  | one | two
  deriving DecidableEq, Repr

/-- The parameters of rule R9 that a step depends on. -/
structure Config where
  /-- CYCLES_MAIN: the cost of each main-table opcode byte (R107, R411, R412). -/
  cyclesMain : Byte → Nat
  /-- The one entry the source prints, LD A,n: every instantiation must have it (R9, R411). -/
  ldAnCost : cyclesMain 0x3E = 2
  /-- CYCLES_CB: the cost of each 0xCB-prefixed instruction, by its second byte (R107, R413). -/
  cyclesCB : Byte → Nat
  /-- SERIAL_SENTINEL: the value of 0xFF02 that triggers the serial tap (R355). -/
  serialSentinel : Byte
  /-- STOP_LEN: how many bytes STOP takes up (R92, R282). -/
  stopLength : StopLength

end Sys2Proof
end

