-- ==== Sys2Proof/Syntax.lean ====
section
/-!
DEFINITION. The instructions as syntax: one constructor for each mnemonic of spec/opcode_table.json (the eleven ILLEGAL
rows share one mnemonic, and their constructor carries which of the eleven bytes it is), and a second one for STOP, whose
format the parameter STOP_LEN selects (R9, R282). Register operands are part of the constructor, as they are part of the
row; an immediate `n` (R97), `nn` (R98) or displacement `e` (R99) is an argument. Constructor names spell the row: `at` marks a memory operand, so `ld_atHL_b` is LD (HL),B.

The operand types below are the selectors of 30_encoding.md rules R95, R96, R100, R101 and R102, by which the decoder
and the meanings group the rows into families.
-/

namespace Sys2Proof

/-- The seven 8-bit registers (R20). -/
inductive Reg8 where
  | b | c | d | e | h | l | a
  deriving DecidableEq, Repr

/-- A 3-bit selector, decoded: a plain register, or the byte at address HL (R95). -/
inductive Operand8 where
  | reg (r : Reg8)
  | atHL
  deriving DecidableEq, Repr

/-- The pair selector `r16[p]` of LD rr,nn, INC rr, DEC rr and ADD HL,rr (R96). -/
inductive Pair where
  | bc | de | hl | sp
  deriving DecidableEq, Repr

/-- The pair selector `q16[p]` of PUSH and POP (R96). -/
inductive StackPair where
  | bc | de | hl | af
  deriving DecidableEq, Repr

/-- The condition field `c` of the conditional transfers (R100). -/
inductive Cond where
  | nz | z | nc | c
  deriving DecidableEq, Repr

/-- The ALU operation field `o` of 0x80 to 0xBF and of the immediate forms (R101). -/
inductive AluOp where
  | add | adc | sub | sbc | and | xor | or | cp
  deriving DecidableEq, Repr

/-- The eight rotates and shifts of the CB table (R102). -/
inductive ShiftOp where
  | rlc | rrc | rl | rr | sla | sra | swap | srl
  deriving DecidableEq, Repr

/-- Where the loads of A through memory find their address (R125 to R138): BC, DE, `nn`, 0xFF00 + `n`, 0xFF00 + C, and
HL with a post-increment or a post-decrement. -/
inductive AccAddr where
  | bc | de
  | imm (nn : Word)
  | high (n : Byte)
  | highC
  | hlInc | hlDec
  deriving DecidableEq, Repr

/-- One constructor for each mnemonic of spec/opcode_table.json, in the table's order, and last the format of STOP that no
row of the table shows (R282). -/
inductive Instr where
  /-- NOP, 0x00 (R280). -/
  | nop
  /-- LD BC,nn, 0x01 (R152). -/
  | ld_bc_nn (nn : Word)
  /-- LD (BC),A, 0x02 (R127). -/
  | ld_atBC_a
  /-- INC BC, 0x03 (R210). -/
  | inc_bc
  /-- INC B, 0x04 (R188). -/
  | inc_b
  /-- DEC B, 0x05 (R190). -/
  | dec_b
  /-- LD B,n, 0x06 (R123). -/
  | ld_b_n (n : Byte)
  /-- RLCA, 0x07 (R220). -/
  | rlca
  /-- LD (nn),SP, 0x08 (R153). -/
  | ld_atNn_sp (nn : Word)
  /-- ADD HL,BC, 0x09 (R212). -/
  | add_hl_bc
  /-- LD A,(BC), 0x0A (R125). -/
  | ld_a_atBC
  /-- DEC BC, 0x0B (R211). -/
  | dec_bc
  /-- INC C, 0x0C (R188). -/
  | inc_c
  /-- DEC C, 0x0D (R190). -/
  | dec_c
  /-- LD C,n, 0x0E (R123). -/
  | ld_c_n (n : Byte)
  /-- RRCA, 0x0F (R221). -/
  | rrca
  /-- STOP in format OP_N, two bytes: 0x10 where STOP_LEN is 2, the table's row (R282). -/
  | stop
  /-- LD DE,nn, 0x11 (R152). -/
  | ld_de_nn (nn : Word)
  /-- LD (DE),A, 0x12 (R128). -/
  | ld_atDE_a
  /-- INC DE, 0x13 (R210). -/
  | inc_de
  /-- INC D, 0x14 (R188). -/
  | inc_d
  /-- DEC D, 0x15 (R190). -/
  | dec_d
  /-- LD D,n, 0x16 (R123). -/
  | ld_d_n (n : Byte)
  /-- RLA, 0x17 (R222). -/
  | rla
  /-- JR e, 0x18 (R254). -/
  | jr_e (e : Byte)
  /-- ADD HL,DE, 0x19 (R212). -/
  | add_hl_de
  /-- LD A,(DE), 0x1A (R126). -/
  | ld_a_atDE
  /-- DEC DE, 0x1B (R211). -/
  | dec_de
  /-- INC E, 0x1C (R188). -/
  | inc_e
  /-- DEC E, 0x1D (R190). -/
  | dec_e
  /-- LD E,n, 0x1E (R123). -/
  | ld_e_n (n : Byte)
  /-- RRA, 0x1F (R223). -/
  | rra
  /-- JR NZ,e, 0x20 (R255). -/
  | jr_nz_e (e : Byte)
  /-- LD HL,nn, 0x21 (R152). -/
  | ld_hl_nn (nn : Word)
  /-- LD (HL+),A, 0x22 (R135). -/
  | ld_atHLinc_a
  /-- INC HL, 0x23 (R210). -/
  | inc_hl
  /-- INC H, 0x24 (R188). -/
  | inc_h
  /-- DEC H, 0x25 (R190). -/
  | dec_h
  /-- LD H,n, 0x26 (R123). -/
  | ld_h_n (n : Byte)
  /-- DAA, 0x27 (R192). -/
  | daa
  /-- JR Z,e, 0x28 (R255). -/
  | jr_z_e (e : Byte)
  /-- ADD HL,HL, 0x29 (R212). -/
  | add_hl_hl
  /-- LD A,(HL+), 0x2A (R136). -/
  | ld_a_atHLinc
  /-- DEC HL, 0x2B (R211). -/
  | dec_hl
  /-- INC L, 0x2C (R188). -/
  | inc_l
  /-- DEC L, 0x2D (R190). -/
  | dec_l
  /-- LD L,n, 0x2E (R123). -/
  | ld_l_n (n : Byte)
  /-- CPL, 0x2F (R193). -/
  | cpl
  /-- JR NC,e, 0x30 (R255). -/
  | jr_nc_e (e : Byte)
  /-- LD SP,nn, 0x31 (R152). -/
  | ld_sp_nn (nn : Word)
  /-- LD (HL-),A, 0x32 (R137). -/
  | ld_atHLdec_a
  /-- INC SP, 0x33 (R210). -/
  | inc_sp
  /-- INC (HL), 0x34 (R189). -/
  | inc_atHL
  /-- DEC (HL), 0x35 (R191). -/
  | dec_atHL
  /-- LD (HL),n, 0x36 (R124). -/
  | ld_atHL_n (n : Byte)
  /-- SCF, 0x37 (R194). -/
  | scf
  /-- JR C,e, 0x38 (R255). -/
  | jr_c_e (e : Byte)
  /-- ADD HL,SP, 0x39 (R212). -/
  | add_hl_sp
  /-- LD A,(HL-), 0x3A (R138). -/
  | ld_a_atHLdec
  /-- DEC SP, 0x3B (R211). -/
  | dec_sp
  /-- INC A, 0x3C (R188). -/
  | inc_a
  /-- DEC A, 0x3D (R190). -/
  | dec_a
  /-- LD A,n, 0x3E (R123). -/
  | ld_a_n (n : Byte)
  /-- CCF, 0x3F (R195). -/
  | ccf
  /-- LD B,B, 0x40 (R120). -/
  | ld_b_b
  /-- LD B,C, 0x41 (R120). -/
  | ld_b_c
  /-- LD B,D, 0x42 (R120). -/
  | ld_b_d
  /-- LD B,E, 0x43 (R120). -/
  | ld_b_e
  /-- LD B,H, 0x44 (R120). -/
  | ld_b_h
  /-- LD B,L, 0x45 (R120). -/
  | ld_b_l
  /-- LD B,(HL), 0x46 (R121). -/
  | ld_b_atHL
  /-- LD B,A, 0x47 (R120). -/
  | ld_b_a
  /-- LD C,B, 0x48 (R120). -/
  | ld_c_b
  /-- LD C,C, 0x49 (R120). -/
  | ld_c_c
  /-- LD C,D, 0x4A (R120). -/
  | ld_c_d
  /-- LD C,E, 0x4B (R120). -/
  | ld_c_e
  /-- LD C,H, 0x4C (R120). -/
  | ld_c_h
  /-- LD C,L, 0x4D (R120). -/
  | ld_c_l
  /-- LD C,(HL), 0x4E (R121). -/
  | ld_c_atHL
  /-- LD C,A, 0x4F (R120). -/
  | ld_c_a
  /-- LD D,B, 0x50 (R120). -/
  | ld_d_b
  /-- LD D,C, 0x51 (R120). -/
  | ld_d_c
  /-- LD D,D, 0x52 (R120). -/
  | ld_d_d
  /-- LD D,E, 0x53 (R120). -/
  | ld_d_e
  /-- LD D,H, 0x54 (R120). -/
  | ld_d_h
  /-- LD D,L, 0x55 (R120). -/
  | ld_d_l
  /-- LD D,(HL), 0x56 (R121). -/
  | ld_d_atHL
  /-- LD D,A, 0x57 (R120). -/
  | ld_d_a
  /-- LD E,B, 0x58 (R120). -/
  | ld_e_b
  /-- LD E,C, 0x59 (R120). -/
  | ld_e_c
  /-- LD E,D, 0x5A (R120). -/
  | ld_e_d
  /-- LD E,E, 0x5B (R120). -/
  | ld_e_e
  /-- LD E,H, 0x5C (R120). -/
  | ld_e_h
  /-- LD E,L, 0x5D (R120). -/
  | ld_e_l
  /-- LD E,(HL), 0x5E (R121). -/
  | ld_e_atHL
  /-- LD E,A, 0x5F (R120). -/
  | ld_e_a
  /-- LD H,B, 0x60 (R120). -/
  | ld_h_b
  /-- LD H,C, 0x61 (R120). -/
  | ld_h_c
  /-- LD H,D, 0x62 (R120). -/
  | ld_h_d
  /-- LD H,E, 0x63 (R120). -/
  | ld_h_e
  /-- LD H,H, 0x64 (R120). -/
  | ld_h_h
  /-- LD H,L, 0x65 (R120). -/
  | ld_h_l
  /-- LD H,(HL), 0x66 (R121). -/
  | ld_h_atHL
  /-- LD H,A, 0x67 (R120). -/
  | ld_h_a
  /-- LD L,B, 0x68 (R120). -/
  | ld_l_b
  /-- LD L,C, 0x69 (R120). -/
  | ld_l_c
  /-- LD L,D, 0x6A (R120). -/
  | ld_l_d
  /-- LD L,E, 0x6B (R120). -/
  | ld_l_e
  /-- LD L,H, 0x6C (R120). -/
  | ld_l_h
  /-- LD L,L, 0x6D (R120). -/
  | ld_l_l
  /-- LD L,(HL), 0x6E (R121). -/
  | ld_l_atHL
  /-- LD L,A, 0x6F (R120). -/
  | ld_l_a
  /-- LD (HL),B, 0x70 (R122). -/
  | ld_atHL_b
  /-- LD (HL),C, 0x71 (R122). -/
  | ld_atHL_c
  /-- LD (HL),D, 0x72 (R122). -/
  | ld_atHL_d
  /-- LD (HL),E, 0x73 (R122). -/
  | ld_atHL_e
  /-- LD (HL),H, 0x74 (R122). -/
  | ld_atHL_h
  /-- LD (HL),L, 0x75 (R122). -/
  | ld_atHL_l
  /-- HALT, 0x76 (R281). -/
  | halt
  /-- LD (HL),A, 0x77 (R122). -/
  | ld_atHL_a
  /-- LD A,B, 0x78 (R120). -/
  | ld_a_b
  /-- LD A,C, 0x79 (R120). -/
  | ld_a_c
  /-- LD A,D, 0x7A (R120). -/
  | ld_a_d
  /-- LD A,E, 0x7B (R120). -/
  | ld_a_e
  /-- LD A,H, 0x7C (R120). -/
  | ld_a_h
  /-- LD A,L, 0x7D (R120). -/
  | ld_a_l
  /-- LD A,(HL), 0x7E (R121). -/
  | ld_a_atHL
  /-- LD A,A, 0x7F (R120). -/
  | ld_a_a
  /-- ADD A,B, 0x80 (R172). -/
  | add_a_b
  /-- ADD A,C, 0x81 (R172). -/
  | add_a_c
  /-- ADD A,D, 0x82 (R172). -/
  | add_a_d
  /-- ADD A,E, 0x83 (R172). -/
  | add_a_e
  /-- ADD A,H, 0x84 (R172). -/
  | add_a_h
  /-- ADD A,L, 0x85 (R172). -/
  | add_a_l
  /-- ADD A,(HL), 0x86 (R172). -/
  | add_a_atHL
  /-- ADD A,A, 0x87 (R172). -/
  | add_a_a
  /-- ADC A,B, 0x88 (R173). -/
  | adc_a_b
  /-- ADC A,C, 0x89 (R173). -/
  | adc_a_c
  /-- ADC A,D, 0x8A (R173). -/
  | adc_a_d
  /-- ADC A,E, 0x8B (R173). -/
  | adc_a_e
  /-- ADC A,H, 0x8C (R173). -/
  | adc_a_h
  /-- ADC A,L, 0x8D (R173). -/
  | adc_a_l
  /-- ADC A,(HL), 0x8E (R173). -/
  | adc_a_atHL
  /-- ADC A,A, 0x8F (R173). -/
  | adc_a_a
  /-- SUB B, 0x90 (R174). -/
  | sub_b
  /-- SUB C, 0x91 (R174). -/
  | sub_c
  /-- SUB D, 0x92 (R174). -/
  | sub_d
  /-- SUB E, 0x93 (R174). -/
  | sub_e
  /-- SUB H, 0x94 (R174). -/
  | sub_h
  /-- SUB L, 0x95 (R174). -/
  | sub_l
  /-- SUB (HL), 0x96 (R174). -/
  | sub_atHL
  /-- SUB A, 0x97 (R174). -/
  | sub_a
  /-- SBC A,B, 0x98 (R175). -/
  | sbc_a_b
  /-- SBC A,C, 0x99 (R175). -/
  | sbc_a_c
  /-- SBC A,D, 0x9A (R175). -/
  | sbc_a_d
  /-- SBC A,E, 0x9B (R175). -/
  | sbc_a_e
  /-- SBC A,H, 0x9C (R175). -/
  | sbc_a_h
  /-- SBC A,L, 0x9D (R175). -/
  | sbc_a_l
  /-- SBC A,(HL), 0x9E (R175). -/
  | sbc_a_atHL
  /-- SBC A,A, 0x9F (R175). -/
  | sbc_a_a
  /-- AND B, 0xA0 (R176). -/
  | and_b
  /-- AND C, 0xA1 (R176). -/
  | and_c
  /-- AND D, 0xA2 (R176). -/
  | and_d
  /-- AND E, 0xA3 (R176). -/
  | and_e
  /-- AND H, 0xA4 (R176). -/
  | and_h
  /-- AND L, 0xA5 (R176). -/
  | and_l
  /-- AND (HL), 0xA6 (R176). -/
  | and_atHL
  /-- AND A, 0xA7 (R176). -/
  | and_a
  /-- XOR B, 0xA8 (R177). -/
  | xor_b
  /-- XOR C, 0xA9 (R177). -/
  | xor_c
  /-- XOR D, 0xAA (R177). -/
  | xor_d
  /-- XOR E, 0xAB (R177). -/
  | xor_e
  /-- XOR H, 0xAC (R177). -/
  | xor_h
  /-- XOR L, 0xAD (R177). -/
  | xor_l
  /-- XOR (HL), 0xAE (R177). -/
  | xor_atHL
  /-- XOR A, 0xAF (R177). -/
  | xor_a
  /-- OR B, 0xB0 (R178). -/
  | or_b
  /-- OR C, 0xB1 (R178). -/
  | or_c
  /-- OR D, 0xB2 (R178). -/
  | or_d
  /-- OR E, 0xB3 (R178). -/
  | or_e
  /-- OR H, 0xB4 (R178). -/
  | or_h
  /-- OR L, 0xB5 (R178). -/
  | or_l
  /-- OR (HL), 0xB6 (R178). -/
  | or_atHL
  /-- OR A, 0xB7 (R178). -/
  | or_a
  /-- CP B, 0xB8 (R179). -/
  | cp_b
  /-- CP C, 0xB9 (R179). -/
  | cp_c
  /-- CP D, 0xBA (R179). -/
  | cp_d
  /-- CP E, 0xBB (R179). -/
  | cp_e
  /-- CP H, 0xBC (R179). -/
  | cp_h
  /-- CP L, 0xBD (R179). -/
  | cp_l
  /-- CP (HL), 0xBE (R179). -/
  | cp_atHL
  /-- CP A, 0xBF (R179). -/
  | cp_a
  /-- RET NZ, 0xC0 (R259). -/
  | ret_nz
  /-- POP BC, 0xC1 (R158). -/
  | pop_bc
  /-- JP NZ,nn, 0xC2 (R252). -/
  | jp_nz_nn (nn : Word)
  /-- JP nn, 0xC3 (R251). -/
  | jp_nn (nn : Word)
  /-- CALL NZ,nn, 0xC4 (R257). -/
  | call_nz_nn (nn : Word)
  /-- PUSH BC, 0xC5 (R156). -/
  | push_bc
  /-- ADD A,n, 0xC6 (R180). -/
  | add_a_n (n : Byte)
  /-- RST 00H, 0xC7 (R261). -/
  | rst_00
  /-- RET Z, 0xC8 (R259). -/
  | ret_z
  /-- RET, 0xC9 (R258). -/
  | ret
  /-- JP Z,nn, 0xCA (R252). -/
  | jp_z_nn (nn : Word)
  /-- CALL Z,nn, 0xCC (R257). -/
  | call_z_nn (nn : Word)
  /-- CALL nn, 0xCD (R256). -/
  | call_nn (nn : Word)
  /-- ADC A,n, 0xCE (R181). -/
  | adc_a_n (n : Byte)
  /-- RST 08H, 0xCF (R261). -/
  | rst_08
  /-- RET NC, 0xD0 (R259). -/
  | ret_nc
  /-- POP DE, 0xD1 (R158). -/
  | pop_de
  /-- JP NC,nn, 0xD2 (R252). -/
  | jp_nc_nn (nn : Word)
  /-- ILLEGAL, one of the eleven bytes of rule R105 (R285). -/
  | illegal (op : Byte)
  /-- CALL NC,nn, 0xD4 (R257). -/
  | call_nc_nn (nn : Word)
  /-- PUSH DE, 0xD5 (R156). -/
  | push_de
  /-- SUB n, 0xD6 (R182). -/
  | sub_n (n : Byte)
  /-- RST 10H, 0xD7 (R261). -/
  | rst_10
  /-- RET C, 0xD8 (R259). -/
  | ret_c
  /-- RETI, 0xD9 (R260). -/
  | reti
  /-- JP C,nn, 0xDA (R252). -/
  | jp_c_nn (nn : Word)
  /-- CALL C,nn, 0xDC (R257). -/
  | call_c_nn (nn : Word)
  /-- SBC A,n, 0xDE (R183). -/
  | sbc_a_n (n : Byte)
  /-- RST 18H, 0xDF (R261). -/
  | rst_18
  /-- LDH (n),A, 0xE0 (R132). -/
  | ldh_atN_a (n : Byte)
  /-- POP HL, 0xE1 (R158). -/
  | pop_hl
  /-- LD (C),A, 0xE2 (R134). -/
  | ld_atC_a
  /-- PUSH HL, 0xE5 (R156). -/
  | push_hl
  /-- AND n, 0xE6 (R184). -/
  | and_n (n : Byte)
  /-- RST 20H, 0xE7 (R261). -/
  | rst_20
  /-- ADD SP,e, 0xE8 (R213). -/
  | add_sp_e (e : Byte)
  /-- JP (HL), 0xE9 (R253). -/
  | jp_atHL
  /-- LD (nn),A, 0xEA (R130). -/
  | ld_atNn_a (nn : Word)
  /-- XOR n, 0xEE (R185). -/
  | xor_n (n : Byte)
  /-- RST 28H, 0xEF (R261). -/
  | rst_28
  /-- LDH A,(n), 0xF0 (R131). -/
  | ldh_a_atN (n : Byte)
  /-- POP AF, 0xF1 (R159). -/
  | pop_af
  /-- LD A,(C), 0xF2 (R133). -/
  | ld_a_atC
  /-- DI, 0xF3 (R283). -/
  | di
  /-- PUSH AF, 0xF5 (R157). -/
  | push_af
  /-- OR n, 0xF6 (R186). -/
  | or_n (n : Byte)
  /-- RST 30H, 0xF7 (R261). -/
  | rst_30
  /-- LD HL,SP+e, 0xF8 (R155). -/
  | ld_hl_spPlusE (e : Byte)
  /-- LD SP,HL, 0xF9 (R154). -/
  | ld_sp_hl
  /-- LD A,(nn), 0xFA (R129). -/
  | ld_a_atNn (nn : Word)
  /-- EI, 0xFB (R284). -/
  | ei
  /-- CP n, 0xFE (R187). -/
  | cp_n (n : Byte)
  /-- RST 38H, 0xFF (R261). -/
  | rst_38
  /-- RLC B, 0xCB00 (R225). -/
  | rlc_b
  /-- RLC C, 0xCB01 (R225). -/
  | rlc_c
  /-- RLC D, 0xCB02 (R225). -/
  | rlc_d
  /-- RLC E, 0xCB03 (R225). -/
  | rlc_e
  /-- RLC H, 0xCB04 (R225). -/
  | rlc_h
  /-- RLC L, 0xCB05 (R225). -/
  | rlc_l
  /-- RLC (HL), 0xCB06 (R225). -/
  | rlc_atHL
  /-- RLC A, 0xCB07 (R225). -/
  | rlc_a
  /-- RRC B, 0xCB08 (R226). -/
  | rrc_b
  /-- RRC C, 0xCB09 (R226). -/
  | rrc_c
  /-- RRC D, 0xCB0A (R226). -/
  | rrc_d
  /-- RRC E, 0xCB0B (R226). -/
  | rrc_e
  /-- RRC H, 0xCB0C (R226). -/
  | rrc_h
  /-- RRC L, 0xCB0D (R226). -/
  | rrc_l
  /-- RRC (HL), 0xCB0E (R226). -/
  | rrc_atHL
  /-- RRC A, 0xCB0F (R226). -/
  | rrc_a
  /-- RL B, 0xCB10 (R227). -/
  | rl_b
  /-- RL C, 0xCB11 (R227). -/
  | rl_c
  /-- RL D, 0xCB12 (R227). -/
  | rl_d
  /-- RL E, 0xCB13 (R227). -/
  | rl_e
  /-- RL H, 0xCB14 (R227). -/
  | rl_h
  /-- RL L, 0xCB15 (R227). -/
  | rl_l
  /-- RL (HL), 0xCB16 (R227). -/
  | rl_atHL
  /-- RL A, 0xCB17 (R227). -/
  | rl_a
  /-- RR B, 0xCB18 (R228). -/
  | rr_b
  /-- RR C, 0xCB19 (R228). -/
  | rr_c
  /-- RR D, 0xCB1A (R228). -/
  | rr_d
  /-- RR E, 0xCB1B (R228). -/
  | rr_e
  /-- RR H, 0xCB1C (R228). -/
  | rr_h
  /-- RR L, 0xCB1D (R228). -/
  | rr_l
  /-- RR (HL), 0xCB1E (R228). -/
  | rr_atHL
  /-- RR A, 0xCB1F (R228). -/
  | rr_a
  /-- SLA B, 0xCB20 (R229). -/
  | sla_b
  /-- SLA C, 0xCB21 (R229). -/
  | sla_c
  /-- SLA D, 0xCB22 (R229). -/
  | sla_d
  /-- SLA E, 0xCB23 (R229). -/
  | sla_e
  /-- SLA H, 0xCB24 (R229). -/
  | sla_h
  /-- SLA L, 0xCB25 (R229). -/
  | sla_l
  /-- SLA (HL), 0xCB26 (R229). -/
  | sla_atHL
  /-- SLA A, 0xCB27 (R229). -/
  | sla_a
  /-- SRA B, 0xCB28 (R230). -/
  | sra_b
  /-- SRA C, 0xCB29 (R230). -/
  | sra_c
  /-- SRA D, 0xCB2A (R230). -/
  | sra_d
  /-- SRA E, 0xCB2B (R230). -/
  | sra_e
  /-- SRA H, 0xCB2C (R230). -/
  | sra_h
  /-- SRA L, 0xCB2D (R230). -/
  | sra_l
  /-- SRA (HL), 0xCB2E (R230). -/
  | sra_atHL
  /-- SRA A, 0xCB2F (R230). -/
  | sra_a
  /-- SWAP B, 0xCB30 (R231). -/
  | swap_b
  /-- SWAP C, 0xCB31 (R231). -/
  | swap_c
  /-- SWAP D, 0xCB32 (R231). -/
  | swap_d
  /-- SWAP E, 0xCB33 (R231). -/
  | swap_e
  /-- SWAP H, 0xCB34 (R231). -/
  | swap_h
  /-- SWAP L, 0xCB35 (R231). -/
  | swap_l
  /-- SWAP (HL), 0xCB36 (R231). -/
  | swap_atHL
  /-- SWAP A, 0xCB37 (R231). -/
  | swap_a
  /-- SRL B, 0xCB38 (R232). -/
  | srl_b
  /-- SRL C, 0xCB39 (R232). -/
  | srl_c
  /-- SRL D, 0xCB3A (R232). -/
  | srl_d
  /-- SRL E, 0xCB3B (R232). -/
  | srl_e
  /-- SRL H, 0xCB3C (R232). -/
  | srl_h
  /-- SRL L, 0xCB3D (R232). -/
  | srl_l
  /-- SRL (HL), 0xCB3E (R232). -/
  | srl_atHL
  /-- SRL A, 0xCB3F (R232). -/
  | srl_a
  /-- BIT 0,B, 0xCB40 (R233). -/
  | bit_0_b
  /-- BIT 0,C, 0xCB41 (R233). -/
  | bit_0_c
  /-- BIT 0,D, 0xCB42 (R233). -/
  | bit_0_d
  /-- BIT 0,E, 0xCB43 (R233). -/
  | bit_0_e
  /-- BIT 0,H, 0xCB44 (R233). -/
  | bit_0_h
  /-- BIT 0,L, 0xCB45 (R233). -/
  | bit_0_l
  /-- BIT 0,(HL), 0xCB46 (R233). -/
  | bit_0_atHL
  /-- BIT 0,A, 0xCB47 (R233). -/
  | bit_0_a
  /-- BIT 1,B, 0xCB48 (R233). -/
  | bit_1_b
  /-- BIT 1,C, 0xCB49 (R233). -/
  | bit_1_c
  /-- BIT 1,D, 0xCB4A (R233). -/
  | bit_1_d
  /-- BIT 1,E, 0xCB4B (R233). -/
  | bit_1_e
  /-- BIT 1,H, 0xCB4C (R233). -/
  | bit_1_h
  /-- BIT 1,L, 0xCB4D (R233). -/
  | bit_1_l
  /-- BIT 1,(HL), 0xCB4E (R233). -/
  | bit_1_atHL
  /-- BIT 1,A, 0xCB4F (R233). -/
  | bit_1_a
  /-- BIT 2,B, 0xCB50 (R233). -/
  | bit_2_b
  /-- BIT 2,C, 0xCB51 (R233). -/
  | bit_2_c
  /-- BIT 2,D, 0xCB52 (R233). -/
  | bit_2_d
  /-- BIT 2,E, 0xCB53 (R233). -/
  | bit_2_e
  /-- BIT 2,H, 0xCB54 (R233). -/
  | bit_2_h
  /-- BIT 2,L, 0xCB55 (R233). -/
  | bit_2_l
  /-- BIT 2,(HL), 0xCB56 (R233). -/
  | bit_2_atHL
  /-- BIT 2,A, 0xCB57 (R233). -/
  | bit_2_a
  /-- BIT 3,B, 0xCB58 (R233). -/
  | bit_3_b
  /-- BIT 3,C, 0xCB59 (R233). -/
  | bit_3_c
  /-- BIT 3,D, 0xCB5A (R233). -/
  | bit_3_d
  /-- BIT 3,E, 0xCB5B (R233). -/
  | bit_3_e
  /-- BIT 3,H, 0xCB5C (R233). -/
  | bit_3_h
  /-- BIT 3,L, 0xCB5D (R233). -/
  | bit_3_l
  /-- BIT 3,(HL), 0xCB5E (R233). -/
  | bit_3_atHL
  /-- BIT 3,A, 0xCB5F (R233). -/
  | bit_3_a
  /-- BIT 4,B, 0xCB60 (R233). -/
  | bit_4_b
  /-- BIT 4,C, 0xCB61 (R233). -/
  | bit_4_c
  /-- BIT 4,D, 0xCB62 (R233). -/
  | bit_4_d
  /-- BIT 4,E, 0xCB63 (R233). -/
  | bit_4_e
  /-- BIT 4,H, 0xCB64 (R233). -/
  | bit_4_h
  /-- BIT 4,L, 0xCB65 (R233). -/
  | bit_4_l
  /-- BIT 4,(HL), 0xCB66 (R233). -/
  | bit_4_atHL
  /-- BIT 4,A, 0xCB67 (R233). -/
  | bit_4_a
  /-- BIT 5,B, 0xCB68 (R233). -/
  | bit_5_b
  /-- BIT 5,C, 0xCB69 (R233). -/
  | bit_5_c
  /-- BIT 5,D, 0xCB6A (R233). -/
  | bit_5_d
  /-- BIT 5,E, 0xCB6B (R233). -/
  | bit_5_e
  /-- BIT 5,H, 0xCB6C (R233). -/
  | bit_5_h
  /-- BIT 5,L, 0xCB6D (R233). -/
  | bit_5_l
  /-- BIT 5,(HL), 0xCB6E (R233). -/
  | bit_5_atHL
  /-- BIT 5,A, 0xCB6F (R233). -/
  | bit_5_a
  /-- BIT 6,B, 0xCB70 (R233). -/
  | bit_6_b
  /-- BIT 6,C, 0xCB71 (R233). -/
  | bit_6_c
  /-- BIT 6,D, 0xCB72 (R233). -/
  | bit_6_d
  /-- BIT 6,E, 0xCB73 (R233). -/
  | bit_6_e
  /-- BIT 6,H, 0xCB74 (R233). -/
  | bit_6_h
  /-- BIT 6,L, 0xCB75 (R233). -/
  | bit_6_l
  /-- BIT 6,(HL), 0xCB76 (R233). -/
  | bit_6_atHL
  /-- BIT 6,A, 0xCB77 (R233). -/
  | bit_6_a
  /-- BIT 7,B, 0xCB78 (R233). -/
  | bit_7_b
  /-- BIT 7,C, 0xCB79 (R233). -/
  | bit_7_c
  /-- BIT 7,D, 0xCB7A (R233). -/
  | bit_7_d
  /-- BIT 7,E, 0xCB7B (R233). -/
  | bit_7_e
  /-- BIT 7,H, 0xCB7C (R233). -/
  | bit_7_h
  /-- BIT 7,L, 0xCB7D (R233). -/
  | bit_7_l
  /-- BIT 7,(HL), 0xCB7E (R233). -/
  | bit_7_atHL
  /-- BIT 7,A, 0xCB7F (R233). -/
  | bit_7_a
  /-- RES 0,B, 0xCB80 (R234). -/
  | res_0_b
  /-- RES 0,C, 0xCB81 (R234). -/
  | res_0_c
  /-- RES 0,D, 0xCB82 (R234). -/
  | res_0_d
  /-- RES 0,E, 0xCB83 (R234). -/
  | res_0_e
  /-- RES 0,H, 0xCB84 (R234). -/
  | res_0_h
  /-- RES 0,L, 0xCB85 (R234). -/
  | res_0_l
  /-- RES 0,(HL), 0xCB86 (R234). -/
  | res_0_atHL
  /-- RES 0,A, 0xCB87 (R234). -/
  | res_0_a
  /-- RES 1,B, 0xCB88 (R234). -/
  | res_1_b
  /-- RES 1,C, 0xCB89 (R234). -/
  | res_1_c
  /-- RES 1,D, 0xCB8A (R234). -/
  | res_1_d
  /-- RES 1,E, 0xCB8B (R234). -/
  | res_1_e
  /-- RES 1,H, 0xCB8C (R234). -/
  | res_1_h
  /-- RES 1,L, 0xCB8D (R234). -/
  | res_1_l
  /-- RES 1,(HL), 0xCB8E (R234). -/
  | res_1_atHL
  /-- RES 1,A, 0xCB8F (R234). -/
  | res_1_a
  /-- RES 2,B, 0xCB90 (R234). -/
  | res_2_b
  /-- RES 2,C, 0xCB91 (R234). -/
  | res_2_c
  /-- RES 2,D, 0xCB92 (R234). -/
  | res_2_d
  /-- RES 2,E, 0xCB93 (R234). -/
  | res_2_e
  /-- RES 2,H, 0xCB94 (R234). -/
  | res_2_h
  /-- RES 2,L, 0xCB95 (R234). -/
  | res_2_l
  /-- RES 2,(HL), 0xCB96 (R234). -/
  | res_2_atHL
  /-- RES 2,A, 0xCB97 (R234). -/
  | res_2_a
  /-- RES 3,B, 0xCB98 (R234). -/
  | res_3_b
  /-- RES 3,C, 0xCB99 (R234). -/
  | res_3_c
  /-- RES 3,D, 0xCB9A (R234). -/
  | res_3_d
  /-- RES 3,E, 0xCB9B (R234). -/
  | res_3_e
  /-- RES 3,H, 0xCB9C (R234). -/
  | res_3_h
  /-- RES 3,L, 0xCB9D (R234). -/
  | res_3_l
  /-- RES 3,(HL), 0xCB9E (R234). -/
  | res_3_atHL
  /-- RES 3,A, 0xCB9F (R234). -/
  | res_3_a
  /-- RES 4,B, 0xCBA0 (R234). -/
  | res_4_b
  /-- RES 4,C, 0xCBA1 (R234). -/
  | res_4_c
  /-- RES 4,D, 0xCBA2 (R234). -/
  | res_4_d
  /-- RES 4,E, 0xCBA3 (R234). -/
  | res_4_e
  /-- RES 4,H, 0xCBA4 (R234). -/
  | res_4_h
  /-- RES 4,L, 0xCBA5 (R234). -/
  | res_4_l
  /-- RES 4,(HL), 0xCBA6 (R234). -/
  | res_4_atHL
  /-- RES 4,A, 0xCBA7 (R234). -/
  | res_4_a
  /-- RES 5,B, 0xCBA8 (R234). -/
  | res_5_b
  /-- RES 5,C, 0xCBA9 (R234). -/
  | res_5_c
  /-- RES 5,D, 0xCBAA (R234). -/
  | res_5_d
  /-- RES 5,E, 0xCBAB (R234). -/
  | res_5_e
  /-- RES 5,H, 0xCBAC (R234). -/
  | res_5_h
  /-- RES 5,L, 0xCBAD (R234). -/
  | res_5_l
  /-- RES 5,(HL), 0xCBAE (R234). -/
  | res_5_atHL
  /-- RES 5,A, 0xCBAF (R234). -/
  | res_5_a
  /-- RES 6,B, 0xCBB0 (R234). -/
  | res_6_b
  /-- RES 6,C, 0xCBB1 (R234). -/
  | res_6_c
  /-- RES 6,D, 0xCBB2 (R234). -/
  | res_6_d
  /-- RES 6,E, 0xCBB3 (R234). -/
  | res_6_e
  /-- RES 6,H, 0xCBB4 (R234). -/
  | res_6_h
  /-- RES 6,L, 0xCBB5 (R234). -/
  | res_6_l
  /-- RES 6,(HL), 0xCBB6 (R234). -/
  | res_6_atHL
  /-- RES 6,A, 0xCBB7 (R234). -/
  | res_6_a
  /-- RES 7,B, 0xCBB8 (R234). -/
  | res_7_b
  /-- RES 7,C, 0xCBB9 (R234). -/
  | res_7_c
  /-- RES 7,D, 0xCBBA (R234). -/
  | res_7_d
  /-- RES 7,E, 0xCBBB (R234). -/
  | res_7_e
  /-- RES 7,H, 0xCBBC (R234). -/
  | res_7_h
  /-- RES 7,L, 0xCBBD (R234). -/
  | res_7_l
  /-- RES 7,(HL), 0xCBBE (R234). -/
  | res_7_atHL
  /-- RES 7,A, 0xCBBF (R234). -/
  | res_7_a
  /-- SET 0,B, 0xCBC0 (R235). -/
  | set_0_b
  /-- SET 0,C, 0xCBC1 (R235). -/
  | set_0_c
  /-- SET 0,D, 0xCBC2 (R235). -/
  | set_0_d
  /-- SET 0,E, 0xCBC3 (R235). -/
  | set_0_e
  /-- SET 0,H, 0xCBC4 (R235). -/
  | set_0_h
  /-- SET 0,L, 0xCBC5 (R235). -/
  | set_0_l
  /-- SET 0,(HL), 0xCBC6 (R235). -/
  | set_0_atHL
  /-- SET 0,A, 0xCBC7 (R235). -/
  | set_0_a
  /-- SET 1,B, 0xCBC8 (R235). -/
  | set_1_b
  /-- SET 1,C, 0xCBC9 (R235). -/
  | set_1_c
  /-- SET 1,D, 0xCBCA (R235). -/
  | set_1_d
  /-- SET 1,E, 0xCBCB (R235). -/
  | set_1_e
  /-- SET 1,H, 0xCBCC (R235). -/
  | set_1_h
  /-- SET 1,L, 0xCBCD (R235). -/
  | set_1_l
  /-- SET 1,(HL), 0xCBCE (R235). -/
  | set_1_atHL
  /-- SET 1,A, 0xCBCF (R235). -/
  | set_1_a
  /-- SET 2,B, 0xCBD0 (R235). -/
  | set_2_b
  /-- SET 2,C, 0xCBD1 (R235). -/
  | set_2_c
  /-- SET 2,D, 0xCBD2 (R235). -/
  | set_2_d
  /-- SET 2,E, 0xCBD3 (R235). -/
  | set_2_e
  /-- SET 2,H, 0xCBD4 (R235). -/
  | set_2_h
  /-- SET 2,L, 0xCBD5 (R235). -/
  | set_2_l
  /-- SET 2,(HL), 0xCBD6 (R235). -/
  | set_2_atHL
  /-- SET 2,A, 0xCBD7 (R235). -/
  | set_2_a
  /-- SET 3,B, 0xCBD8 (R235). -/
  | set_3_b
  /-- SET 3,C, 0xCBD9 (R235). -/
  | set_3_c
  /-- SET 3,D, 0xCBDA (R235). -/
  | set_3_d
  /-- SET 3,E, 0xCBDB (R235). -/
  | set_3_e
  /-- SET 3,H, 0xCBDC (R235). -/
  | set_3_h
  /-- SET 3,L, 0xCBDD (R235). -/
  | set_3_l
  /-- SET 3,(HL), 0xCBDE (R235). -/
  | set_3_atHL
  /-- SET 3,A, 0xCBDF (R235). -/
  | set_3_a
  /-- SET 4,B, 0xCBE0 (R235). -/
  | set_4_b
  /-- SET 4,C, 0xCBE1 (R235). -/
  | set_4_c
  /-- SET 4,D, 0xCBE2 (R235). -/
  | set_4_d
  /-- SET 4,E, 0xCBE3 (R235). -/
  | set_4_e
  /-- SET 4,H, 0xCBE4 (R235). -/
  | set_4_h
  /-- SET 4,L, 0xCBE5 (R235). -/
  | set_4_l
  /-- SET 4,(HL), 0xCBE6 (R235). -/
  | set_4_atHL
  /-- SET 4,A, 0xCBE7 (R235). -/
  | set_4_a
  /-- SET 5,B, 0xCBE8 (R235). -/
  | set_5_b
  /-- SET 5,C, 0xCBE9 (R235). -/
  | set_5_c
  /-- SET 5,D, 0xCBEA (R235). -/
  | set_5_d
  /-- SET 5,E, 0xCBEB (R235). -/
  | set_5_e
  /-- SET 5,H, 0xCBEC (R235). -/
  | set_5_h
  /-- SET 5,L, 0xCBED (R235). -/
  | set_5_l
  /-- SET 5,(HL), 0xCBEE (R235). -/
  | set_5_atHL
  /-- SET 5,A, 0xCBEF (R235). -/
  | set_5_a
  /-- SET 6,B, 0xCBF0 (R235). -/
  | set_6_b
  /-- SET 6,C, 0xCBF1 (R235). -/
  | set_6_c
  /-- SET 6,D, 0xCBF2 (R235). -/
  | set_6_d
  /-- SET 6,E, 0xCBF3 (R235). -/
  | set_6_e
  /-- SET 6,H, 0xCBF4 (R235). -/
  | set_6_h
  /-- SET 6,L, 0xCBF5 (R235). -/
  | set_6_l
  /-- SET 6,(HL), 0xCBF6 (R235). -/
  | set_6_atHL
  /-- SET 6,A, 0xCBF7 (R235). -/
  | set_6_a
  /-- SET 7,B, 0xCBF8 (R235). -/
  | set_7_b
  /-- SET 7,C, 0xCBF9 (R235). -/
  | set_7_c
  /-- SET 7,D, 0xCBFA (R235). -/
  | set_7_d
  /-- SET 7,E, 0xCBFB (R235). -/
  | set_7_e
  /-- SET 7,H, 0xCBFC (R235). -/
  | set_7_h
  /-- SET 7,L, 0xCBFD (R235). -/
  | set_7_l
  /-- SET 7,(HL), 0xCBFE (R235). -/
  | set_7_atHL
  /-- SET 7,A, 0xCBFF (R235). -/
  | set_7_a
  /-- STOP in format OP, one byte: 0x10 where STOP_LEN is 1 (R282). -/
  | stopOneByte
  deriving DecidableEq, Repr

end Sys2Proof
end

