-- ==== Sys2Proof/WellFormed.lean ====
section
/-!
DEFINITION. Which terms of `Instr` are instructions of the table. Every operand is exactly as wide as its field and
every register, condition and bit index is part of the constructor, so the checks are that ILLEGAL carries one of the
eleven bytes that no instruction has (30_encoding.md rule R105), and that STOP has the format the parameter STOP_LEN
selects (46_system.md rule R282).
-/

namespace Sys2Proof

/-- The eleven main-table bytes assigned to no instruction (R105). -/
def illegalOpcodes : List Byte :=
  [0xD3, 0xDB, 0xDD, 0xE3, 0xE4, 0xEB, 0xEC, 0xED, 0xF4, 0xFC, 0xFD]

/-- The instruction is one the table has (R105, R110), `len` being the parameter STOP_LEN (R9, R282). -/
def Instr.wf (len : StopLength) : Instr → Bool
  | .illegal op => illegalOpcodes.contains op
  | .stop => decide (len = .two)
  | .stopOneByte => decide (len = .one)
  | _ => true

end Sys2Proof
end

