-- ==== Sys2Proof/Machine/Cost.lean ====
section
/-!
DEFINITION. The cost of an instruction (30_encoding.md rule R107): an entry of CYCLES_MAIN by its opcode byte, or of
CYCLES_CB by its second byte; not a function of operands, flags or a taken branch.
-/

namespace Sys2Proof.Machine

/-- `Cost(op, op2)` (R107). -/
def cost (cfg : Config) (i : Instr) : Nat :=
  match encode i with
  | [] => 0
  | op :: rest => if op = 0xCB then cfg.cyclesCB (rest.getD 0 0) else cfg.cyclesMain op

end Sys2Proof.Machine
end

