-- ==== Sys2Proof/Machine/State.lean ====
section
/-!
DEFINITION. The state of the machine as plain data (10_state.md), the two faults, the one refusal, and reset
(70_reset_and_hazards.md rule R400). The operations on it stand in the other files of this folder.
-/

namespace Sys2Proof.Machine

/-- The four modes of the PPU (R33, R300). -/
inductive PpuMode where
  | accessOAM | accessVRAM | hblank | vblank
  deriving DecidableEq, Repr

/-- A 2-bit colour index (R33). -/
abbrev Shade := BitVec 2

/-- One scanline of the framebuffer: 160 columns (R33). -/
abbrev Row := Vector Shade 160

/-- A framebuffer: 144 rows (R33). -/
abbrev Frame := Vector Row 144

/-- The bytes of memory that differ from what an unlisted address holds, by backing address, in ascending order (R58).
`Memory.unlisted` of Sys2Proof/Machine/Ops.lean says what an unlisted address holds. -/
abbrev Memory := List Host.Cell

/-- Everything the spec gives the machine (R32, R33, R35, R58). -/
@[ext]
structure State where
  /-- A, the accumulator (R20). -/
  a : Byte
  /-- F: Z is bit 7, N bit 6, H bit 5, C bit 4, and the low nibble is zero (R25, R26). -/
  f : Byte
  /-- B (R20). -/
  b : Byte
  /-- C (R20). -/
  c : Byte
  /-- D (R20). -/
  d : Byte
  /-- E (R20). -/
  e : Byte
  /-- H (R20). -/
  h : Byte
  /-- L (R20). -/
  l : Byte
  /-- SP (R29). -/
  sp : Word
  /-- pc: between steps, the address of the next opcode byte (R30). -/
  pc : Word
  /-- Set by STOP; ends the run at the next instruction boundary (R31, R352). -/
  stopped : Bool
  /-- Set by HALT; read by nothing (R31). -/
  halted : Bool
  /-- ppu.line, 0 to 153 between steps (R33, R34). -/
  ppuLine : Nat
  /-- ppu.mode (R33). -/
  ppuMode : PpuMode
  /-- ppu.acc, below the budget of the mode between steps (R33, R34). -/
  ppuAcc : Nat
  /-- fb, indexed by row and then by column (R33). -/
  fb : Frame
  /-- mem, the memory-mapped registers of rule R36 included (R57, R58). -/
  mem : Memory
  /-- The text accumulator, oldest byte first (R35). -/
  text : List Byte
  /-- The frames emitted, oldest first (R35). -/
  frames : List Frame
  deriving DecidableEq, Repr

/-- What ends a run (60_exceptions.md rules R370, R372). Each fault carries its datum and the state at the fault: the
state before the step plus what the instruction wrote before the faulting access, `pc` still being the address of the
instruction's first byte (R354, R373). There is no handler, and no step follows a fault. -/
inductive Fault where
  /-- An access of an instruction (fetch, operand, data or stack) to 0xFEA0 to 0xFEFF; `addr` is the address before the
  echo mapping (R52, R370). Raised by `readByte` and `writeByte`. Safe: the run ends where another machine may go on. -/
  | unmappedAddress (addr : Word) (atFault : State)
  /-- A byte that begins no instruction was fetched as an opcode (R105, R285, R370). Raised by the meaning of ILLEGAL.
  Safe: the run ends where another machine may go on. -/
  | illegalOpcode (op : Byte) (atFault : State)
  deriving DecidableEq, Repr

/-- Why an instruction has no meaning in the model. -/
inductive Refusal where
  /-- An instruction the model gives no meaning. Raised by no arm of this model's `exec`. Safe: nothing runs. -/
  | notModelled (mnemonic : String)
  deriving DecidableEq, Repr

/-- Reset, with the two things the spec leaves to the host as arguments: INIT_MEM, as the bytes of it that are not what
an unlisted address holds, and FB_INIT (R44, R400, R402). Nothing is published to memory (R45). -/
def State.resetWith (initMem : Memory) (fbInit : Frame) : State where
  a := 0x01
  f := 0xB0
  b := 0x00
  c := 0x13
  d := 0x00
  e := 0xD8
  h := 0x01
  l := 0x4D
  sp := 0xFFFE
  pc := 0x0100
  stopped := false
  halted := false
  ppuLine := 0
  ppuMode := .accessOAM
  ppuAcc := 0
  fb := fbInit
  mem := initMem
  text := []
  frames := []

/-- A framebuffer of zeros. DESIGN CHOICE (log entry 2, unsafe): FB_INIT of `State.reset`; the spec gives none. -/
def Frame.blank : Frame := Vector.replicate 144 (Vector.replicate 160 0)

/-- The machine right after reset. DESIGN CHOICE (log entries 1 and 2, unsafe): INIT_MEM with nothing listed, and a blank
FB_INIT. -/
def State.reset : State := State.resetWith [] Frame.blank

end Sys2Proof.Machine
end

