-- ==== Sys2Proof/Machine/Ops.lean ====
section
/-!
DEFINITION. The named operations over memory, the stack and pc, and the one operation that ends a run with a fault
(20_memory.md, 41_load16_stack.md rules R150 and R151, 60_exceptions.md rules R370 to R373).

The block has no trap entry: no event saves pc or a status, changes a mode or transfers control (R379). What stands in
its place is `raise`, which ends the run with the fault and the state it was met in. The return instruction RETI is a
bare return (R380) and stands in Sys2Proof/Machine/Control.lean.
-/

namespace Sys2Proof.Machine

/-- The three outcomes of an instruction and of a step. -/
abbrev Result := Host.Outcome State Fault Refusal

/-- The outcome of an instruction whose accesses may fault. -/
def outcome : Except Fault State → Result
  | .ok s => .next s
  | .error r => .fault r

/-- End the run with a fault, recording the state it is met in: everything the instruction has written so far, and pc
still at its first byte, since every instruction writes pc last (R354, R372, R373). -/
def raise {α : Type} (fault : State → Fault) (s : State) : Except Fault α := .error (fault s)

/-! ### The store behind the bus (R58) -/

/-- What a backing address that is not listed holds. DESIGN CHOICE (log entry 1, unsafe): INIT_MEM of `State.reset` is
0x00 everywhere; the spec gives no contents (R58, R402). -/
def Memory.unlisted : Byte := 0x00

/-- The byte at a backing address. -/
def Memory.get : Memory → Nat → Byte
  | [], _ => Memory.unlisted
  | (k, v) :: rest, p => if p = k then v else Memory.get rest p

/-- Put a cell in its place in the ascending order. -/
def Memory.insert : Memory → Nat → Byte → Memory
  | [], p, v => [(p, v)]
  | (k, w) :: rest, p, v => if p < k then (p, v) :: (k, w) :: rest else (k, w) :: Memory.insert rest p v

/-- Store a byte at a backing address, keeping the canonical form: the old cell goes, and the new one is listed unless
it holds what an unlisted address holds. -/
def Memory.put (m : Memory) (p : Nat) (v : Byte) : Memory :=
  let others := m.filter (fun cell => cell.1 ≠ p)
  if v = Memory.unlisted then others else Memory.insert others p v

/-- The backing addresses: 0x0000 to 0xDFFF, 0xFE00 to 0xFE9F and 0xFF00 to 0xFFFF (R58). -/
def isBacking (p : Nat) : Bool :=
  p ≤ 0xDFFF || (0xFE00 ≤ p && p ≤ 0xFE9F) || (0xFF00 ≤ p && p ≤ 0xFFFF)

/-- The canonical form: addresses strictly ascending, and no cell that holds what an unlisted address holds. -/
abbrev Memory.wf (m : Memory) : Prop :=
  m.Pairwise (fun x y => x.1 < y.1) ∧ ∀ cell ∈ m, cell.2 ≠ Memory.unlisted

/-- Every listed address is a backing address (R58). -/
abbrev Memory.backed (m : Memory) : Prop := ∀ cell ∈ m, isBacking cell.1 = true

/-! ### The bus (R51, R60 to R65) -/

/-- `Resolve(a)`: the backing address behind a bus address, none for the unmapped gap (R52, R54, R60). -/
def resolve (addr : Word) : Option Nat :=
  let p := addr.toNat
  if 0xE000 ≤ p ∧ p ≤ 0xFDFF then some (p - 0x2000)
  else if 0xFEA0 ≤ p ∧ p ≤ 0xFEFF then none
  else some p

/-- The backing addresses of ROM (R51, R53). -/
def isRom (p : Nat) : Bool := p ≤ 0x7FFF

/-- The byte a read of a mapped bus address returns; for the unmapped gap, where no read returns, what an unlisted
address holds. -/
def State.peek (s : State) (addr : Word) : Byte :=
  match resolve addr with
  | some p => s.mem.get p
  | none => Memory.unlisted

/-- The state a write of a mapped bus address leaves: ROM drops it (R53, R62). The unmapped gap, where no write
completes, leaves the state alone. -/
def State.poke (s : State) (addr : Word) (v : Byte) : State :=
  match resolve addr with
  | some p => if isRom p then s else { s with mem := s.mem.put p v }
  | none => s

/-- `MemRead(a, 1)` (R61). -/
def State.readByte (s : State) (addr : Word) : Except Fault Byte :=
  match resolve addr with
  | some _ => .ok (s.peek addr)
  | none => raise (.unmappedAddress addr) s

/-- `MemWrite(a, 1, v)` (R62). -/
def State.writeByte (s : State) (addr : Word) (v : Byte) : Except Fault State :=
  match resolve addr with
  | some _ => .ok (s.poke addr v)
  | none => raise (.unmappedAddress addr) s

/-- `MemRead(a, 2)`: low byte first, at the lower address; the second address wraps (R63). -/
def State.readWord (s : State) (addr : Word) : Except Fault Word := do
  let lo ← s.readByte addr
  let hi ← s.readByte (addr + 1)
  return joinBytes hi lo

/-- `MemWrite(a, 2, w)`: low byte first, at the lower address; the second address wraps (R64). -/
def State.writeWord (s : State) (addr : Word) (w : Word) : Except Fault State := do
  let s ← s.writeByte addr (loByte w)
  s.writeByte (addr + 1) (hiByte w)

/-! ### The stack (R150, R151) -/

/-- `Push16(w)`: the high byte, then the low byte, SP decremented before each (R150). -/
def State.push16 (s : State) (w : Word) : Except Fault State := do
  let s := { s with sp := s.sp - 1 }
  let s ← s.writeByte s.sp (hiByte w)
  let s := { s with sp := s.sp - 1 }
  s.writeByte s.sp (loByte w)

/-- `Pop16()`: the low byte, then the high byte, SP incremented after each (R151). -/
def State.pop16 (s : State) : Except Fault (Word × State) := do
  let lo ← s.readByte s.sp
  let s := { s with sp := s.sp + 1 }
  let hi ← s.readByte s.sp
  return (joinBytes hi lo, { s with sp := s.sp + 1 })

/-! ### pc (R13, R30) -/

/-- `pc <- target` (R13). -/
def State.jump (s : State) (target : Word) : State := { s with pc := target }

/-- `pc <- u16(pc + len)` (R13, R30). -/
def State.advance (s : State) (len : Nat) : State := s.jump (s.pc + BitVec.ofNat 16 len)

end Sys2Proof.Machine
end

