-- ==== Sys2Proof/Machine/Operands.lean ====
section
/-!
DEFINITION. The operand forms of 30_encoding.md: the 8-bit selector (R95), the pair views and pair selectors (R23, R27,
R96), the displacement (R99) and the addresses of the accumulator loads (40_load8.md rules R125 to R138).
-/

namespace Sys2Proof.Machine

/-! ### 8-bit registers and the selector `r8` (R20, R95) -/

/-- Read a register (R20, R21). -/
def State.reg (s : State) : Reg8 → Byte
  | .b => s.b
  | .c => s.c
  | .d => s.d
  | .e => s.e
  | .h => s.h
  | .l => s.l
  | .a => s.a

/-- Write a register (R20, R21). -/
def State.setReg (s : State) (r : Reg8) (v : Byte) : State :=
  match r with
  | .b => { s with b := v }
  | .c => { s with c := v }
  | .d => { s with d := v }
  | .e => { s with e := v }
  | .h => { s with h := v }
  | .l => { s with l := v }
  | .a => { s with a := v }

/-! ### Pair views (R23, R27, R96) -/

/-- BC, as a view of its two registers (R23). -/
def State.bc (s : State) : Word := joinBytes s.b s.c

/-- DE, as a view of its two registers (R23). -/
def State.de (s : State) : Word := joinBytes s.d s.e

/-- HL, as a view of its two registers (R23). -/
def State.hl (s : State) : Word := joinBytes s.h s.l

/-- AF, as a view of A and F (R27). -/
def State.af (s : State) : Word := joinBytes s.a s.f

/-- Write BC through its two registers (R23). -/
def State.setBC (s : State) (w : Word) : State := { s with b := hiByte w, c := loByte w }

/-- Write DE through its two registers (R23). -/
def State.setDE (s : State) (w : Word) : State := { s with d := hiByte w, e := loByte w }

/-- Write HL through its two registers (R23). -/
def State.setHL (s : State) (w : Word) : State := { s with h := hiByte w, l := loByte w }

/-- Write AF, the low nibble of F masked to zero (R26, R27). -/
def State.setAF (s : State) (w : Word) : State := { s with a := hiByte w, f := loByte w &&& 0xF0 }

/-- `r16[p]` (R96). -/
def State.pair (s : State) : Pair → Word
  | .bc => s.bc
  | .de => s.de
  | .hl => s.hl
  | .sp => s.sp

/-- `r16[p] <- w` (R96). -/
def State.setPair (s : State) (p : Pair) (w : Word) : State :=
  match p with
  | .bc => s.setBC w
  | .de => s.setDE w
  | .hl => s.setHL w
  | .sp => { s with sp := w }

/-- `q16[q]` (R96). -/
def State.stackPair (s : State) : StackPair → Word
  | .bc => s.bc
  | .de => s.de
  | .hl => s.hl
  | .af => s.af

/-- `q16[q] <- w` (R96). -/
def State.setStackPair (s : State) (q : StackPair) (w : Word) : State :=
  match q with
  | .bc => s.setBC w
  | .de => s.setDE w
  | .hl => s.setHL w
  | .af => s.setAF w

/-! ### The selector read and written (R95) -/

/-- `r8[s]`: the register, or the byte at HL (R95). -/
def State.readOperand (s : State) : Operand8 → Except Fault Byte
  | .reg r => .ok (s.reg r)
  | .atHL => s.readByte s.hl

/-- `r8[s] <- v`: the register, or the byte at HL (R95). -/
def State.writeOperand (s : State) (o : Operand8) (v : Byte) : Except Fault State :=
  match o with
  | .reg r => .ok (s.setReg r v)
  | .atHL => s.writeByte s.hl v

/-! ### The addresses of the accumulator loads (R125 to R138) -/

/-- The base of the high page: LDH and the (C) forms reach 0xFF00 plus a byte (R69, R131 to R134). -/
def highPage (n : Byte) : Word := joinBytes 0xFF n

/-- The address an accumulator load reads or writes (R125 to R138). -/
def State.accAddress (s : State) : AccAddr → Word
  | .bc => s.bc
  | .de => s.de
  | .imm nn => nn
  | .high n => highPage n
  | .highC => highPage s.c
  | .hlInc => s.hl
  | .hlDec => s.hl

/-- What the form does to HL after the access: the post-increment or post-decrement, modulo 65536 (R135 to R138). -/
def State.accAfter (s : State) : AccAddr → State
  | .hlInc => s.setHL (s.hl + 1)
  | .hlDec => s.setHL (s.hl - 1)
  | _ => s

/-- The length of the form in bytes (R125 to R138). -/
def accLength : AccAddr → Nat
  | .imm _ => 3
  | .high _ => 2
  | _ => 1

end Sys2Proof.Machine
end

