-- ==== Sys2Proof/Machine/Flags.lean ====
section
/-!
DEFINITION. The flags cell and every flag computation of the spec: ADD8 and SUB8 (R170, R171), the logical operations
(R176 to R178), INC and DEC (R188, R190), DAA (R192), the 16-bit additions (R155, R212, R213), rotates and shifts
(R220 to R232) and BIT (R233); and the condition test (R250).
-/

namespace Sys2Proof.Machine

/-- The four condition bits (R25). -/
structure Flags where
  z : Bool
  n : Bool
  h : Bool
  c : Bool
  deriving DecidableEq, Repr

/-- The flags cell with the given bits: Z N H C in bits 7 to 4, the low nibble zero (R25, R26). -/
def Flags.toByte (g : Flags) : Byte :=
  BitVec.ofBool g.z ++ BitVec.ofBool g.n ++ BitVec.ofBool g.h ++ BitVec.ofBool g.c ++ (0 : BitVec 4)

/-- F.Z (R25). -/
def State.flagZ (s : State) : Bool := s.f.getLsbD 7

/-- F.N (R25). -/
def State.flagN (s : State) : Bool := s.f.getLsbD 6

/-- F.H (R25). -/
def State.flagH (s : State) : Bool := s.f.getLsbD 5

/-- F.C (R25). -/
def State.flagC (s : State) : Bool := s.f.getLsbD 4

/-- Write the four flags (R15, R26). -/
def State.setFlags (s : State) (g : Flags) : State := { s with f := g.toByte }

/-- `Cond(c)` (R100, R250). -/
def State.cond (s : State) : Cond → Bool
  | .nz => !s.flagZ
  | .z => s.flagZ
  | .nc => !s.flagC
  | .c => s.flagC

/-! ### 8-bit arithmetic and logic (42_alu8.md) -/

/-- The low nibble of a byte, as a number. -/
def lowNibble (v : Byte) : Nat := (v &&& 0x0F).toNat

/-- `ADD8(a, v, cin)` (R170). -/
def add8 (a v : Byte) (cin : Bool) : Byte × Flags :=
  let t := a.toNat + v.toNat + cin.toNat
  let r := BitVec.ofNat 8 t
  (r,
    { z := r = 0
      n := false
      h := 0x0F < lowNibble a + lowNibble v + cin.toNat
      c := 0xFF < t })

/-- `SUB8(a, v, cin)` (R171). -/
def sub8 (a v : Byte) (cin : Bool) : Byte × Flags :=
  let t : Int := a.toNat - v.toNat - cin.toNat
  let r := BitVec.ofInt 8 t
  (r,
    { z := r = 0
      n := true
      h := (lowNibble a : Int) - lowNibble v - cin.toNat < 0
      c := t < 0 })

/-- The result and flags of an ALU operation on A and an operand, `cin` being F.C (R172 to R187). CP's result is
computed and not stored (R179). -/
def aluResult (o : AluOp) (a v : Byte) (cin : Bool) : Byte × Flags :=
  match o with
  | .add => add8 a v false
  | .adc => add8 a v cin
  | .sub => sub8 a v false
  | .sbc => sub8 a v cin
  | .and => (a &&& v, { z := a &&& v = 0, n := false, h := true, c := false })
  | .xor => (a ^^^ v, { z := a ^^^ v = 0, n := false, h := false, c := false })
  | .or => (a ||| v, { z := a ||| v = 0, n := false, h := false, c := false })
  | .cp => sub8 a v false

/-- The result and flags of INC on a byte, F.C unchanged (R188). -/
def incResult (v : Byte) (cin : Bool) : Byte × Flags :=
  let r := v + 1
  (r, { z := r = 0, n := false, h := lowNibble v = 0x0F, c := cin })

/-- The result and flags of DEC on a byte, F.C unchanged (R190). -/
def decResult (v : Byte) (cin : Bool) : Byte × Flags :=
  let r := v - 1
  (r, { z := r = 0, n := true, h := lowNibble v = 0x00, c := cin })

/-- The result and flags of DAA from A and the flags (R192). Both tests of the `N = 0` arm use A before any
adjustment. -/
def daaResult (a : Byte) (g : Flags) : Byte × Flags :=
  if g.n then
    let adj : Byte := (if g.h then 0x06 else 0x00) + (if g.c then 0x60 else 0x00)
    let r := a - adj
    (r, { z := r = 0, n := true, h := false, c := g.c })
  else
    let high : Bool := g.c || 0x99 < a.toNat
    let adj : Byte := (if g.h || 0x09 < lowNibble a then 0x06 else 0x00) + (if high then 0x60 else 0x00)
    let r := a + adj
    (r, { z := r = 0, n := false, h := false, c := high })

/-! ### 16-bit additions -/

/-- The result and flags of ADD HL,rr, F.Z unchanged (R212). -/
def addHLResult (a v : Word) (zin : Bool) : Word × Flags :=
  let t := a.toNat + v.toNat
  (BitVec.ofNat 16 t,
    { z := zin
      n := false
      h := 0x0FFF < (a &&& 0x0FFF).toNat + (v &&& 0x0FFF).toNat
      c := 0xFFFF < t })

/-- SP plus the signed displacement, with the carries of adding the unsigned byte to the low byte of SP (R155, R213). -/
def spPlusE (sp : Word) (e : Byte) : Word × Flags :=
  (sp + signExtend8 e,
    { z := false
      n := false
      h := 0x0F < (sp &&& 0x0F).toNat + lowNibble e
      c := 0xFF < (sp &&& 0xFF).toNat + e.toNat })

/-! ### Rotates, shifts and bits (44_rotate_shift_bit.md) -/

/-- A bit as the byte 0 or 1. -/
def bitByte (x : Bool) : Byte := (BitVec.ofBool x).setWidth 8

/-- The result and the bit shifted out of a rotate or shift, `cin` being F.C (R225 to R232). SWAP shifts nothing out. -/
def shiftResult (o : ShiftOp) (v : Byte) (cin : Bool) : Byte × Bool :=
  let out7 := v.getLsbD 7
  let out0 := v.getLsbD 0
  match o with
  | .rlc => ((v <<< 1) ||| bitByte out7, out7)
  | .rrc => ((v >>> 1) ||| (bitByte out0 <<< 7), out0)
  | .rl => ((v <<< 1) ||| bitByte cin, out7)
  | .rr => ((v >>> 1) ||| (bitByte cin <<< 7), out0)
  | .sla => (v <<< 1, out7)
  | .sra => ((v >>> 1) ||| (v &&& 0x80), out0)
  | .swap => ((v <<< 4) ||| (v >>> 4), false)
  | .srl => (v >>> 1, out0)

/-- The flags of a CB rotate or shift: Z from the result, C the bit shifted out (R225 to R232). -/
def shiftFlags (r : Byte) (out : Bool) : Flags := { z := r = 0, n := false, h := false, c := out }

/-- The flags of the accumulator rotates: Z is 0 whatever the result (R220 to R223). -/
def accRotateFlags (out : Bool) : Flags := { z := false, n := false, h := false, c := out }

/-- The flags of BIT b on the byte `v`, F.C unchanged (R233). -/
def bitFlags (b : Fin 8) (v : Byte) (cin : Bool) : Flags :=
  { z := !v.getLsbD b, n := false, h := true, c := cin }

/-- `v & ~(1 << b)` (R234, R308). -/
def resBit (v : Byte) (b : Fin 8) : Byte := v &&& ~~~((1 : Byte) <<< b.val)

/-- `v | (1 << b)` (R235, R308). -/
def setBit (v : Byte) (b : Fin 8) : Byte := v ||| ((1 : Byte) <<< b.val)

end Sys2Proof.Machine
end

