-- ==== Sys2Proof/Machine/Alu16.lean ====
section
/-!
DEFINITION. 16-bit arithmetic (43_alu16.md rules R210 to R213). First the operations of the family, then the meaning of
each instruction.
-/

namespace Sys2Proof.Machine

/-- INC rr, no flag written (R210). -/
def incPair (p : Pair) (s : State) : Result := .next ((s.setPair p (s.pair p + 1)).advance 1)

/-- DEC rr, no flag written (R211). -/
def decPair (p : Pair) (s : State) : Result := .next ((s.setPair p (s.pair p - 1)).advance 1)

/-- ADD HL,rr (R212). -/
def addHL (p : Pair) (s : State) : Result :=
  let (w, g) := addHLResult s.hl (s.pair p) s.flagZ
  .next (((s.setHL w).setFlags g).advance 1)

/-- ADD SP,e (R213). -/
def addSP (e : Byte) (s : State) : Result :=
  let (w, g) := spPlusE s.sp e
  .next ((State.setFlags { s with sp := w } g).advance 2)

/-! ### The meanings -/

/-- INC BC (R210). -/
def exec_inc_bc (s : State) : Result := incPair .bc s

/-- ADD HL,BC (R212). -/
def exec_add_hl_bc (s : State) : Result := addHL .bc s

/-- DEC BC (R211). -/
def exec_dec_bc (s : State) : Result := decPair .bc s

/-- INC DE (R210). -/
def exec_inc_de (s : State) : Result := incPair .de s

/-- ADD HL,DE (R212). -/
def exec_add_hl_de (s : State) : Result := addHL .de s

/-- DEC DE (R211). -/
def exec_dec_de (s : State) : Result := decPair .de s

/-- INC HL (R210). -/
def exec_inc_hl (s : State) : Result := incPair .hl s

/-- ADD HL,HL (R212). -/
def exec_add_hl_hl (s : State) : Result := addHL .hl s

/-- DEC HL (R211). -/
def exec_dec_hl (s : State) : Result := decPair .hl s

/-- INC SP (R210). -/
def exec_inc_sp (s : State) : Result := incPair .sp s

/-- ADD HL,SP (R212). -/
def exec_add_hl_sp (s : State) : Result := addHL .sp s

/-- DEC SP (R211). -/
def exec_dec_sp (s : State) : Result := decPair .sp s

/-- ADD SP,e (R213). -/
def exec_add_sp_e (e : Byte) (s : State) : Result := addSP e s

end Sys2Proof.Machine
end

