-- ==== Sys2Proof/Machine/Alu8.lean ====
section
/-!
DEFINITION. 8-bit arithmetic and logic (42_alu8.md rules R172 to R195). First the operations of the family, then the
meaning of each instruction.
-/

namespace Sys2Proof.Machine

/-- Apply an ALU operation to A and an operand value: the flags are written, and A too, but by CP (R172 to R179). -/
def State.alu (s : State) (o : AluOp) (v : Byte) : State :=
  let (r, g) := aluResult o s.a v s.flagC
  match o with
  | .cp => s.setFlags g
  | _ => State.setFlags { s with a := r } g

/-- An ALU operation with a register or (HL) operand, read before A is written (R172 to R179). -/
def aluOperand (o : AluOp) (src : Operand8) (s : State) : Result := outcome do
  let v ← s.readOperand src
  return (s.alu o v).advance 1

/-- An ALU operation with an immediate operand (R180 to R187). -/
def aluImmediate (o : AluOp) (n : Byte) (s : State) : Result := .next ((s.alu o n).advance 2)

/-- INC of a register or of (HL); a store to ROM is dropped and the flags are written all the same (R188, R189). -/
def incOperand (o : Operand8) (s : State) : Result := outcome do
  let v ← s.readOperand o
  let (r, g) := incResult v s.flagC
  let s' ← s.writeOperand o r
  return (s'.setFlags g).advance 1

/-- DEC of a register or of (HL); a store to ROM is dropped and the flags are written all the same (R190, R191). -/
def decOperand (o : Operand8) (s : State) : Result := outcome do
  let v ← s.readOperand o
  let (r, g) := decResult v s.flagC
  let s' ← s.writeOperand o r
  return (s'.setFlags g).advance 1

/-- DAA (R192). -/
def decimalAdjust (s : State) : Result :=
  let (r, g) := daaResult s.a { z := s.flagZ, n := s.flagN, h := s.flagH, c := s.flagC }
  .next ((State.setFlags { s with a := r } g).advance 1)

/-- CPL (R193). -/
def complementA (s : State) : Result :=
  let g : Flags := { z := s.flagZ, n := true, h := true, c := s.flagC }
  .next ((State.setFlags { s with a := s.a ^^^ 0xFF } g).advance 1)

/-- SCF (R194). -/
def setCarry (s : State) : Result :=
  .next ((s.setFlags { z := s.flagZ, n := false, h := false, c := true }).advance 1)

/-- CCF (R195). -/
def complementCarry (s : State) : Result :=
  .next ((s.setFlags { z := s.flagZ, n := false, h := false, c := !s.flagC }).advance 1)

/-! ### The meanings -/

/-- INC B (R188). -/
def exec_inc_b (s : State) : Result := incOperand (.reg .b) s

/-- DEC B (R190). -/
def exec_dec_b (s : State) : Result := decOperand (.reg .b) s

/-- INC C (R188). -/
def exec_inc_c (s : State) : Result := incOperand (.reg .c) s

/-- DEC C (R190). -/
def exec_dec_c (s : State) : Result := decOperand (.reg .c) s

/-- INC D (R188). -/
def exec_inc_d (s : State) : Result := incOperand (.reg .d) s

/-- DEC D (R190). -/
def exec_dec_d (s : State) : Result := decOperand (.reg .d) s

/-- INC E (R188). -/
def exec_inc_e (s : State) : Result := incOperand (.reg .e) s

/-- DEC E (R190). -/
def exec_dec_e (s : State) : Result := decOperand (.reg .e) s

/-- INC H (R188). -/
def exec_inc_h (s : State) : Result := incOperand (.reg .h) s

/-- DEC H (R190). -/
def exec_dec_h (s : State) : Result := decOperand (.reg .h) s

/-- DAA (R192). -/
def exec_daa (s : State) : Result := decimalAdjust s

/-- INC L (R188). -/
def exec_inc_l (s : State) : Result := incOperand (.reg .l) s

/-- DEC L (R190). -/
def exec_dec_l (s : State) : Result := decOperand (.reg .l) s

/-- CPL (R193). -/
def exec_cpl (s : State) : Result := complementA s

/-- INC (HL) (R189). -/
def exec_inc_atHL (s : State) : Result := incOperand .atHL s

/-- DEC (HL) (R191). -/
def exec_dec_atHL (s : State) : Result := decOperand .atHL s

/-- SCF (R194). -/
def exec_scf (s : State) : Result := setCarry s

/-- INC A (R188). -/
def exec_inc_a (s : State) : Result := incOperand (.reg .a) s

/-- DEC A (R190). -/
def exec_dec_a (s : State) : Result := decOperand (.reg .a) s

/-- CCF (R195). -/
def exec_ccf (s : State) : Result := complementCarry s

/-- ADD A,B (R172). -/
def exec_add_a_b (s : State) : Result := aluOperand .add (.reg .b) s

/-- ADD A,C (R172). -/
def exec_add_a_c (s : State) : Result := aluOperand .add (.reg .c) s

/-- ADD A,D (R172). -/
def exec_add_a_d (s : State) : Result := aluOperand .add (.reg .d) s

/-- ADD A,E (R172). -/
def exec_add_a_e (s : State) : Result := aluOperand .add (.reg .e) s

/-- ADD A,H (R172). -/
def exec_add_a_h (s : State) : Result := aluOperand .add (.reg .h) s

/-- ADD A,L (R172). -/
def exec_add_a_l (s : State) : Result := aluOperand .add (.reg .l) s

/-- ADD A,(HL) (R172). -/
def exec_add_a_atHL (s : State) : Result := aluOperand .add .atHL s

/-- ADD A,A (R172). -/
def exec_add_a_a (s : State) : Result := aluOperand .add (.reg .a) s

/-- ADC A,B (R173). -/
def exec_adc_a_b (s : State) : Result := aluOperand .adc (.reg .b) s

/-- ADC A,C (R173). -/
def exec_adc_a_c (s : State) : Result := aluOperand .adc (.reg .c) s

/-- ADC A,D (R173). -/
def exec_adc_a_d (s : State) : Result := aluOperand .adc (.reg .d) s

/-- ADC A,E (R173). -/
def exec_adc_a_e (s : State) : Result := aluOperand .adc (.reg .e) s

/-- ADC A,H (R173). -/
def exec_adc_a_h (s : State) : Result := aluOperand .adc (.reg .h) s

/-- ADC A,L (R173). -/
def exec_adc_a_l (s : State) : Result := aluOperand .adc (.reg .l) s

/-- ADC A,(HL) (R173). -/
def exec_adc_a_atHL (s : State) : Result := aluOperand .adc .atHL s

/-- ADC A,A (R173). -/
def exec_adc_a_a (s : State) : Result := aluOperand .adc (.reg .a) s

/-- SUB B (R174). -/
def exec_sub_b (s : State) : Result := aluOperand .sub (.reg .b) s

/-- SUB C (R174). -/
def exec_sub_c (s : State) : Result := aluOperand .sub (.reg .c) s

/-- SUB D (R174). -/
def exec_sub_d (s : State) : Result := aluOperand .sub (.reg .d) s

/-- SUB E (R174). -/
def exec_sub_e (s : State) : Result := aluOperand .sub (.reg .e) s

/-- SUB H (R174). -/
def exec_sub_h (s : State) : Result := aluOperand .sub (.reg .h) s

/-- SUB L (R174). -/
def exec_sub_l (s : State) : Result := aluOperand .sub (.reg .l) s

/-- SUB (HL) (R174). -/
def exec_sub_atHL (s : State) : Result := aluOperand .sub .atHL s

/-- SUB A (R174). -/
def exec_sub_a (s : State) : Result := aluOperand .sub (.reg .a) s

/-- SBC A,B (R175). -/
def exec_sbc_a_b (s : State) : Result := aluOperand .sbc (.reg .b) s

/-- SBC A,C (R175). -/
def exec_sbc_a_c (s : State) : Result := aluOperand .sbc (.reg .c) s

/-- SBC A,D (R175). -/
def exec_sbc_a_d (s : State) : Result := aluOperand .sbc (.reg .d) s

/-- SBC A,E (R175). -/
def exec_sbc_a_e (s : State) : Result := aluOperand .sbc (.reg .e) s

/-- SBC A,H (R175). -/
def exec_sbc_a_h (s : State) : Result := aluOperand .sbc (.reg .h) s

/-- SBC A,L (R175). -/
def exec_sbc_a_l (s : State) : Result := aluOperand .sbc (.reg .l) s

/-- SBC A,(HL) (R175). -/
def exec_sbc_a_atHL (s : State) : Result := aluOperand .sbc .atHL s

/-- SBC A,A (R175). -/
def exec_sbc_a_a (s : State) : Result := aluOperand .sbc (.reg .a) s

/-- AND B (R176). -/
def exec_and_b (s : State) : Result := aluOperand .and (.reg .b) s

/-- AND C (R176). -/
def exec_and_c (s : State) : Result := aluOperand .and (.reg .c) s

/-- AND D (R176). -/
def exec_and_d (s : State) : Result := aluOperand .and (.reg .d) s

/-- AND E (R176). -/
def exec_and_e (s : State) : Result := aluOperand .and (.reg .e) s

/-- AND H (R176). -/
def exec_and_h (s : State) : Result := aluOperand .and (.reg .h) s

/-- AND L (R176). -/
def exec_and_l (s : State) : Result := aluOperand .and (.reg .l) s

/-- AND (HL) (R176). -/
def exec_and_atHL (s : State) : Result := aluOperand .and .atHL s

/-- AND A (R176). -/
def exec_and_a (s : State) : Result := aluOperand .and (.reg .a) s

/-- XOR B (R177). -/
def exec_xor_b (s : State) : Result := aluOperand .xor (.reg .b) s

/-- XOR C (R177). -/
def exec_xor_c (s : State) : Result := aluOperand .xor (.reg .c) s

/-- XOR D (R177). -/
def exec_xor_d (s : State) : Result := aluOperand .xor (.reg .d) s

/-- XOR E (R177). -/
def exec_xor_e (s : State) : Result := aluOperand .xor (.reg .e) s

/-- XOR H (R177). -/
def exec_xor_h (s : State) : Result := aluOperand .xor (.reg .h) s

/-- XOR L (R177). -/
def exec_xor_l (s : State) : Result := aluOperand .xor (.reg .l) s

/-- XOR (HL) (R177). -/
def exec_xor_atHL (s : State) : Result := aluOperand .xor .atHL s

/-- XOR A (R177). -/
def exec_xor_a (s : State) : Result := aluOperand .xor (.reg .a) s

/-- OR B (R178). -/
def exec_or_b (s : State) : Result := aluOperand .or (.reg .b) s

/-- OR C (R178). -/
def exec_or_c (s : State) : Result := aluOperand .or (.reg .c) s

/-- OR D (R178). -/
def exec_or_d (s : State) : Result := aluOperand .or (.reg .d) s

/-- OR E (R178). -/
def exec_or_e (s : State) : Result := aluOperand .or (.reg .e) s

/-- OR H (R178). -/
def exec_or_h (s : State) : Result := aluOperand .or (.reg .h) s

/-- OR L (R178). -/
def exec_or_l (s : State) : Result := aluOperand .or (.reg .l) s

/-- OR (HL) (R178). -/
def exec_or_atHL (s : State) : Result := aluOperand .or .atHL s

/-- OR A (R178). -/
def exec_or_a (s : State) : Result := aluOperand .or (.reg .a) s

/-- CP B (R179). -/
def exec_cp_b (s : State) : Result := aluOperand .cp (.reg .b) s

/-- CP C (R179). -/
def exec_cp_c (s : State) : Result := aluOperand .cp (.reg .c) s

/-- CP D (R179). -/
def exec_cp_d (s : State) : Result := aluOperand .cp (.reg .d) s

/-- CP E (R179). -/
def exec_cp_e (s : State) : Result := aluOperand .cp (.reg .e) s

/-- CP H (R179). -/
def exec_cp_h (s : State) : Result := aluOperand .cp (.reg .h) s

/-- CP L (R179). -/
def exec_cp_l (s : State) : Result := aluOperand .cp (.reg .l) s

/-- CP (HL) (R179). -/
def exec_cp_atHL (s : State) : Result := aluOperand .cp .atHL s

/-- CP A (R179). -/
def exec_cp_a (s : State) : Result := aluOperand .cp (.reg .a) s

/-- ADD A,n (R180). -/
def exec_add_a_n (n : Byte) (s : State) : Result := aluImmediate .add n s

/-- ADC A,n (R181). -/
def exec_adc_a_n (n : Byte) (s : State) : Result := aluImmediate .adc n s

/-- SUB n (R182). -/
def exec_sub_n (n : Byte) (s : State) : Result := aluImmediate .sub n s

/-- SBC A,n (R183). -/
def exec_sbc_a_n (n : Byte) (s : State) : Result := aluImmediate .sbc n s

/-- AND n (R184). -/
def exec_and_n (n : Byte) (s : State) : Result := aluImmediate .and n s

/-- XOR n (R185). -/
def exec_xor_n (n : Byte) (s : State) : Result := aluImmediate .xor n s

/-- OR n (R186). -/
def exec_or_n (n : Byte) (s : State) : Result := aluImmediate .or n s

/-- CP n (R187). -/
def exec_cp_n (n : Byte) (s : State) : Result := aluImmediate .cp n s

end Sys2Proof.Machine
end

