-- ==== Sys2Proof/Machine/Bit.lean ====
section
/-!
DEFINITION. BIT, RES and SET (44_rotate_shift_bit.md rules R233 to R235). First the operations of the family, then the
meaning of each instruction.
-/

namespace Sys2Proof.Machine

/-- BIT b,s: nothing is written back (R233). -/
def testBit (b : Fin 8) (src : Operand8) (s : State) : Result := outcome do
  let v ← s.readOperand src
  return (s.setFlags (bitFlags b v s.flagC)).advance 2

/-- RES b,s: no flag is touched (R234). -/
def clearBitOf (b : Fin 8) (dst : Operand8) (s : State) : Result := outcome do
  let v ← s.readOperand dst
  let s' ← s.writeOperand dst (resBit v b)
  return s'.advance 2

/-- SET b,s: no flag is touched (R235). -/
def setBitOf (b : Fin 8) (dst : Operand8) (s : State) : Result := outcome do
  let v ← s.readOperand dst
  let s' ← s.writeOperand dst (setBit v b)
  return s'.advance 2

/-! ### The meanings -/

/-- BIT 0,B (R233). -/
def exec_bit_0_b (s : State) : Result := testBit 0 (.reg .b) s

/-- BIT 0,C (R233). -/
def exec_bit_0_c (s : State) : Result := testBit 0 (.reg .c) s

/-- BIT 0,D (R233). -/
def exec_bit_0_d (s : State) : Result := testBit 0 (.reg .d) s

/-- BIT 0,E (R233). -/
def exec_bit_0_e (s : State) : Result := testBit 0 (.reg .e) s

/-- BIT 0,H (R233). -/
def exec_bit_0_h (s : State) : Result := testBit 0 (.reg .h) s

/-- BIT 0,L (R233). -/
def exec_bit_0_l (s : State) : Result := testBit 0 (.reg .l) s

/-- BIT 0,(HL) (R233). -/
def exec_bit_0_atHL (s : State) : Result := testBit 0 .atHL s

/-- BIT 0,A (R233). -/
def exec_bit_0_a (s : State) : Result := testBit 0 (.reg .a) s

/-- BIT 1,B (R233). -/
def exec_bit_1_b (s : State) : Result := testBit 1 (.reg .b) s

/-- BIT 1,C (R233). -/
def exec_bit_1_c (s : State) : Result := testBit 1 (.reg .c) s

/-- BIT 1,D (R233). -/
def exec_bit_1_d (s : State) : Result := testBit 1 (.reg .d) s

/-- BIT 1,E (R233). -/
def exec_bit_1_e (s : State) : Result := testBit 1 (.reg .e) s

/-- BIT 1,H (R233). -/
def exec_bit_1_h (s : State) : Result := testBit 1 (.reg .h) s

/-- BIT 1,L (R233). -/
def exec_bit_1_l (s : State) : Result := testBit 1 (.reg .l) s

/-- BIT 1,(HL) (R233). -/
def exec_bit_1_atHL (s : State) : Result := testBit 1 .atHL s

/-- BIT 1,A (R233). -/
def exec_bit_1_a (s : State) : Result := testBit 1 (.reg .a) s

/-- BIT 2,B (R233). -/
def exec_bit_2_b (s : State) : Result := testBit 2 (.reg .b) s

/-- BIT 2,C (R233). -/
def exec_bit_2_c (s : State) : Result := testBit 2 (.reg .c) s

/-- BIT 2,D (R233). -/
def exec_bit_2_d (s : State) : Result := testBit 2 (.reg .d) s

/-- BIT 2,E (R233). -/
def exec_bit_2_e (s : State) : Result := testBit 2 (.reg .e) s

/-- BIT 2,H (R233). -/
def exec_bit_2_h (s : State) : Result := testBit 2 (.reg .h) s

/-- BIT 2,L (R233). -/
def exec_bit_2_l (s : State) : Result := testBit 2 (.reg .l) s

/-- BIT 2,(HL) (R233). -/
def exec_bit_2_atHL (s : State) : Result := testBit 2 .atHL s

/-- BIT 2,A (R233). -/
def exec_bit_2_a (s : State) : Result := testBit 2 (.reg .a) s

/-- BIT 3,B (R233). -/
def exec_bit_3_b (s : State) : Result := testBit 3 (.reg .b) s

/-- BIT 3,C (R233). -/
def exec_bit_3_c (s : State) : Result := testBit 3 (.reg .c) s

/-- BIT 3,D (R233). -/
def exec_bit_3_d (s : State) : Result := testBit 3 (.reg .d) s

/-- BIT 3,E (R233). -/
def exec_bit_3_e (s : State) : Result := testBit 3 (.reg .e) s

/-- BIT 3,H (R233). -/
def exec_bit_3_h (s : State) : Result := testBit 3 (.reg .h) s

/-- BIT 3,L (R233). -/
def exec_bit_3_l (s : State) : Result := testBit 3 (.reg .l) s

/-- BIT 3,(HL) (R233). -/
def exec_bit_3_atHL (s : State) : Result := testBit 3 .atHL s

/-- BIT 3,A (R233). -/
def exec_bit_3_a (s : State) : Result := testBit 3 (.reg .a) s

/-- BIT 4,B (R233). -/
def exec_bit_4_b (s : State) : Result := testBit 4 (.reg .b) s

/-- BIT 4,C (R233). -/
def exec_bit_4_c (s : State) : Result := testBit 4 (.reg .c) s

/-- BIT 4,D (R233). -/
def exec_bit_4_d (s : State) : Result := testBit 4 (.reg .d) s

/-- BIT 4,E (R233). -/
def exec_bit_4_e (s : State) : Result := testBit 4 (.reg .e) s

/-- BIT 4,H (R233). -/
def exec_bit_4_h (s : State) : Result := testBit 4 (.reg .h) s

/-- BIT 4,L (R233). -/
def exec_bit_4_l (s : State) : Result := testBit 4 (.reg .l) s

/-- BIT 4,(HL) (R233). -/
def exec_bit_4_atHL (s : State) : Result := testBit 4 .atHL s

/-- BIT 4,A (R233). -/
def exec_bit_4_a (s : State) : Result := testBit 4 (.reg .a) s

/-- BIT 5,B (R233). -/
def exec_bit_5_b (s : State) : Result := testBit 5 (.reg .b) s

/-- BIT 5,C (R233). -/
def exec_bit_5_c (s : State) : Result := testBit 5 (.reg .c) s

/-- BIT 5,D (R233). -/
def exec_bit_5_d (s : State) : Result := testBit 5 (.reg .d) s

/-- BIT 5,E (R233). -/
def exec_bit_5_e (s : State) : Result := testBit 5 (.reg .e) s

/-- BIT 5,H (R233). -/
def exec_bit_5_h (s : State) : Result := testBit 5 (.reg .h) s

/-- BIT 5,L (R233). -/
def exec_bit_5_l (s : State) : Result := testBit 5 (.reg .l) s

/-- BIT 5,(HL) (R233). -/
def exec_bit_5_atHL (s : State) : Result := testBit 5 .atHL s

/-- BIT 5,A (R233). -/
def exec_bit_5_a (s : State) : Result := testBit 5 (.reg .a) s

/-- BIT 6,B (R233). -/
def exec_bit_6_b (s : State) : Result := testBit 6 (.reg .b) s

/-- BIT 6,C (R233). -/
def exec_bit_6_c (s : State) : Result := testBit 6 (.reg .c) s

/-- BIT 6,D (R233). -/
def exec_bit_6_d (s : State) : Result := testBit 6 (.reg .d) s

/-- BIT 6,E (R233). -/
def exec_bit_6_e (s : State) : Result := testBit 6 (.reg .e) s

/-- BIT 6,H (R233). -/
def exec_bit_6_h (s : State) : Result := testBit 6 (.reg .h) s

/-- BIT 6,L (R233). -/
def exec_bit_6_l (s : State) : Result := testBit 6 (.reg .l) s

/-- BIT 6,(HL) (R233). -/
def exec_bit_6_atHL (s : State) : Result := testBit 6 .atHL s

/-- BIT 6,A (R233). -/
def exec_bit_6_a (s : State) : Result := testBit 6 (.reg .a) s

/-- BIT 7,B (R233). -/
def exec_bit_7_b (s : State) : Result := testBit 7 (.reg .b) s

/-- BIT 7,C (R233). -/
def exec_bit_7_c (s : State) : Result := testBit 7 (.reg .c) s

/-- BIT 7,D (R233). -/
def exec_bit_7_d (s : State) : Result := testBit 7 (.reg .d) s

/-- BIT 7,E (R233). -/
def exec_bit_7_e (s : State) : Result := testBit 7 (.reg .e) s

/-- BIT 7,H (R233). -/
def exec_bit_7_h (s : State) : Result := testBit 7 (.reg .h) s

/-- BIT 7,L (R233). -/
def exec_bit_7_l (s : State) : Result := testBit 7 (.reg .l) s

/-- BIT 7,(HL) (R233). -/
def exec_bit_7_atHL (s : State) : Result := testBit 7 .atHL s

/-- BIT 7,A (R233). -/
def exec_bit_7_a (s : State) : Result := testBit 7 (.reg .a) s

/-- RES 0,B (R234). -/
def exec_res_0_b (s : State) : Result := clearBitOf 0 (.reg .b) s

/-- RES 0,C (R234). -/
def exec_res_0_c (s : State) : Result := clearBitOf 0 (.reg .c) s

/-- RES 0,D (R234). -/
def exec_res_0_d (s : State) : Result := clearBitOf 0 (.reg .d) s

/-- RES 0,E (R234). -/
def exec_res_0_e (s : State) : Result := clearBitOf 0 (.reg .e) s

/-- RES 0,H (R234). -/
def exec_res_0_h (s : State) : Result := clearBitOf 0 (.reg .h) s

/-- RES 0,L (R234). -/
def exec_res_0_l (s : State) : Result := clearBitOf 0 (.reg .l) s

/-- RES 0,(HL) (R234). -/
def exec_res_0_atHL (s : State) : Result := clearBitOf 0 .atHL s

/-- RES 0,A (R234). -/
def exec_res_0_a (s : State) : Result := clearBitOf 0 (.reg .a) s

/-- RES 1,B (R234). -/
def exec_res_1_b (s : State) : Result := clearBitOf 1 (.reg .b) s

/-- RES 1,C (R234). -/
def exec_res_1_c (s : State) : Result := clearBitOf 1 (.reg .c) s

/-- RES 1,D (R234). -/
def exec_res_1_d (s : State) : Result := clearBitOf 1 (.reg .d) s

/-- RES 1,E (R234). -/
def exec_res_1_e (s : State) : Result := clearBitOf 1 (.reg .e) s

/-- RES 1,H (R234). -/
def exec_res_1_h (s : State) : Result := clearBitOf 1 (.reg .h) s

/-- RES 1,L (R234). -/
def exec_res_1_l (s : State) : Result := clearBitOf 1 (.reg .l) s

/-- RES 1,(HL) (R234). -/
def exec_res_1_atHL (s : State) : Result := clearBitOf 1 .atHL s

/-- RES 1,A (R234). -/
def exec_res_1_a (s : State) : Result := clearBitOf 1 (.reg .a) s

/-- RES 2,B (R234). -/
def exec_res_2_b (s : State) : Result := clearBitOf 2 (.reg .b) s

/-- RES 2,C (R234). -/
def exec_res_2_c (s : State) : Result := clearBitOf 2 (.reg .c) s

/-- RES 2,D (R234). -/
def exec_res_2_d (s : State) : Result := clearBitOf 2 (.reg .d) s

/-- RES 2,E (R234). -/
def exec_res_2_e (s : State) : Result := clearBitOf 2 (.reg .e) s

/-- RES 2,H (R234). -/
def exec_res_2_h (s : State) : Result := clearBitOf 2 (.reg .h) s

/-- RES 2,L (R234). -/
def exec_res_2_l (s : State) : Result := clearBitOf 2 (.reg .l) s

/-- RES 2,(HL) (R234). -/
def exec_res_2_atHL (s : State) : Result := clearBitOf 2 .atHL s

/-- RES 2,A (R234). -/
def exec_res_2_a (s : State) : Result := clearBitOf 2 (.reg .a) s

/-- RES 3,B (R234). -/
def exec_res_3_b (s : State) : Result := clearBitOf 3 (.reg .b) s

/-- RES 3,C (R234). -/
def exec_res_3_c (s : State) : Result := clearBitOf 3 (.reg .c) s

/-- RES 3,D (R234). -/
def exec_res_3_d (s : State) : Result := clearBitOf 3 (.reg .d) s

/-- RES 3,E (R234). -/
def exec_res_3_e (s : State) : Result := clearBitOf 3 (.reg .e) s

/-- RES 3,H (R234). -/
def exec_res_3_h (s : State) : Result := clearBitOf 3 (.reg .h) s

/-- RES 3,L (R234). -/
def exec_res_3_l (s : State) : Result := clearBitOf 3 (.reg .l) s

/-- RES 3,(HL) (R234). -/
def exec_res_3_atHL (s : State) : Result := clearBitOf 3 .atHL s

/-- RES 3,A (R234). -/
def exec_res_3_a (s : State) : Result := clearBitOf 3 (.reg .a) s

/-- RES 4,B (R234). -/
def exec_res_4_b (s : State) : Result := clearBitOf 4 (.reg .b) s

/-- RES 4,C (R234). -/
def exec_res_4_c (s : State) : Result := clearBitOf 4 (.reg .c) s

/-- RES 4,D (R234). -/
def exec_res_4_d (s : State) : Result := clearBitOf 4 (.reg .d) s

/-- RES 4,E (R234). -/
def exec_res_4_e (s : State) : Result := clearBitOf 4 (.reg .e) s

/-- RES 4,H (R234). -/
def exec_res_4_h (s : State) : Result := clearBitOf 4 (.reg .h) s

/-- RES 4,L (R234). -/
def exec_res_4_l (s : State) : Result := clearBitOf 4 (.reg .l) s

/-- RES 4,(HL) (R234). -/
def exec_res_4_atHL (s : State) : Result := clearBitOf 4 .atHL s

/-- RES 4,A (R234). -/
def exec_res_4_a (s : State) : Result := clearBitOf 4 (.reg .a) s

/-- RES 5,B (R234). -/
def exec_res_5_b (s : State) : Result := clearBitOf 5 (.reg .b) s

/-- RES 5,C (R234). -/
def exec_res_5_c (s : State) : Result := clearBitOf 5 (.reg .c) s

/-- RES 5,D (R234). -/
def exec_res_5_d (s : State) : Result := clearBitOf 5 (.reg .d) s

/-- RES 5,E (R234). -/
def exec_res_5_e (s : State) : Result := clearBitOf 5 (.reg .e) s

/-- RES 5,H (R234). -/
def exec_res_5_h (s : State) : Result := clearBitOf 5 (.reg .h) s

/-- RES 5,L (R234). -/
def exec_res_5_l (s : State) : Result := clearBitOf 5 (.reg .l) s

/-- RES 5,(HL) (R234). -/
def exec_res_5_atHL (s : State) : Result := clearBitOf 5 .atHL s

/-- RES 5,A (R234). -/
def exec_res_5_a (s : State) : Result := clearBitOf 5 (.reg .a) s

/-- RES 6,B (R234). -/
def exec_res_6_b (s : State) : Result := clearBitOf 6 (.reg .b) s

/-- RES 6,C (R234). -/
def exec_res_6_c (s : State) : Result := clearBitOf 6 (.reg .c) s

/-- RES 6,D (R234). -/
def exec_res_6_d (s : State) : Result := clearBitOf 6 (.reg .d) s

/-- RES 6,E (R234). -/
def exec_res_6_e (s : State) : Result := clearBitOf 6 (.reg .e) s

/-- RES 6,H (R234). -/
def exec_res_6_h (s : State) : Result := clearBitOf 6 (.reg .h) s

/-- RES 6,L (R234). -/
def exec_res_6_l (s : State) : Result := clearBitOf 6 (.reg .l) s

/-- RES 6,(HL) (R234). -/
def exec_res_6_atHL (s : State) : Result := clearBitOf 6 .atHL s

/-- RES 6,A (R234). -/
def exec_res_6_a (s : State) : Result := clearBitOf 6 (.reg .a) s

/-- RES 7,B (R234). -/
def exec_res_7_b (s : State) : Result := clearBitOf 7 (.reg .b) s

/-- RES 7,C (R234). -/
def exec_res_7_c (s : State) : Result := clearBitOf 7 (.reg .c) s

/-- RES 7,D (R234). -/
def exec_res_7_d (s : State) : Result := clearBitOf 7 (.reg .d) s

/-- RES 7,E (R234). -/
def exec_res_7_e (s : State) : Result := clearBitOf 7 (.reg .e) s

/-- RES 7,H (R234). -/
def exec_res_7_h (s : State) : Result := clearBitOf 7 (.reg .h) s

/-- RES 7,L (R234). -/
def exec_res_7_l (s : State) : Result := clearBitOf 7 (.reg .l) s

/-- RES 7,(HL) (R234). -/
def exec_res_7_atHL (s : State) : Result := clearBitOf 7 .atHL s

/-- RES 7,A (R234). -/
def exec_res_7_a (s : State) : Result := clearBitOf 7 (.reg .a) s

/-- SET 0,B (R235). -/
def exec_set_0_b (s : State) : Result := setBitOf 0 (.reg .b) s

/-- SET 0,C (R235). -/
def exec_set_0_c (s : State) : Result := setBitOf 0 (.reg .c) s

/-- SET 0,D (R235). -/
def exec_set_0_d (s : State) : Result := setBitOf 0 (.reg .d) s

/-- SET 0,E (R235). -/
def exec_set_0_e (s : State) : Result := setBitOf 0 (.reg .e) s

/-- SET 0,H (R235). -/
def exec_set_0_h (s : State) : Result := setBitOf 0 (.reg .h) s

/-- SET 0,L (R235). -/
def exec_set_0_l (s : State) : Result := setBitOf 0 (.reg .l) s

/-- SET 0,(HL) (R235). -/
def exec_set_0_atHL (s : State) : Result := setBitOf 0 .atHL s

/-- SET 0,A (R235). -/
def exec_set_0_a (s : State) : Result := setBitOf 0 (.reg .a) s

/-- SET 1,B (R235). -/
def exec_set_1_b (s : State) : Result := setBitOf 1 (.reg .b) s

/-- SET 1,C (R235). -/
def exec_set_1_c (s : State) : Result := setBitOf 1 (.reg .c) s

/-- SET 1,D (R235). -/
def exec_set_1_d (s : State) : Result := setBitOf 1 (.reg .d) s

/-- SET 1,E (R235). -/
def exec_set_1_e (s : State) : Result := setBitOf 1 (.reg .e) s

/-- SET 1,H (R235). -/
def exec_set_1_h (s : State) : Result := setBitOf 1 (.reg .h) s

/-- SET 1,L (R235). -/
def exec_set_1_l (s : State) : Result := setBitOf 1 (.reg .l) s

/-- SET 1,(HL) (R235). -/
def exec_set_1_atHL (s : State) : Result := setBitOf 1 .atHL s

/-- SET 1,A (R235). -/
def exec_set_1_a (s : State) : Result := setBitOf 1 (.reg .a) s

/-- SET 2,B (R235). -/
def exec_set_2_b (s : State) : Result := setBitOf 2 (.reg .b) s

/-- SET 2,C (R235). -/
def exec_set_2_c (s : State) : Result := setBitOf 2 (.reg .c) s

/-- SET 2,D (R235). -/
def exec_set_2_d (s : State) : Result := setBitOf 2 (.reg .d) s

/-- SET 2,E (R235). -/
def exec_set_2_e (s : State) : Result := setBitOf 2 (.reg .e) s

/-- SET 2,H (R235). -/
def exec_set_2_h (s : State) : Result := setBitOf 2 (.reg .h) s

/-- SET 2,L (R235). -/
def exec_set_2_l (s : State) : Result := setBitOf 2 (.reg .l) s

/-- SET 2,(HL) (R235). -/
def exec_set_2_atHL (s : State) : Result := setBitOf 2 .atHL s

/-- SET 2,A (R235). -/
def exec_set_2_a (s : State) : Result := setBitOf 2 (.reg .a) s

/-- SET 3,B (R235). -/
def exec_set_3_b (s : State) : Result := setBitOf 3 (.reg .b) s

/-- SET 3,C (R235). -/
def exec_set_3_c (s : State) : Result := setBitOf 3 (.reg .c) s

/-- SET 3,D (R235). -/
def exec_set_3_d (s : State) : Result := setBitOf 3 (.reg .d) s

/-- SET 3,E (R235). -/
def exec_set_3_e (s : State) : Result := setBitOf 3 (.reg .e) s

/-- SET 3,H (R235). -/
def exec_set_3_h (s : State) : Result := setBitOf 3 (.reg .h) s

/-- SET 3,L (R235). -/
def exec_set_3_l (s : State) : Result := setBitOf 3 (.reg .l) s

/-- SET 3,(HL) (R235). -/
def exec_set_3_atHL (s : State) : Result := setBitOf 3 .atHL s

/-- SET 3,A (R235). -/
def exec_set_3_a (s : State) : Result := setBitOf 3 (.reg .a) s

/-- SET 4,B (R235). -/
def exec_set_4_b (s : State) : Result := setBitOf 4 (.reg .b) s

/-- SET 4,C (R235). -/
def exec_set_4_c (s : State) : Result := setBitOf 4 (.reg .c) s

/-- SET 4,D (R235). -/
def exec_set_4_d (s : State) : Result := setBitOf 4 (.reg .d) s

/-- SET 4,E (R235). -/
def exec_set_4_e (s : State) : Result := setBitOf 4 (.reg .e) s

/-- SET 4,H (R235). -/
def exec_set_4_h (s : State) : Result := setBitOf 4 (.reg .h) s

/-- SET 4,L (R235). -/
def exec_set_4_l (s : State) : Result := setBitOf 4 (.reg .l) s

/-- SET 4,(HL) (R235). -/
def exec_set_4_atHL (s : State) : Result := setBitOf 4 .atHL s

/-- SET 4,A (R235). -/
def exec_set_4_a (s : State) : Result := setBitOf 4 (.reg .a) s

/-- SET 5,B (R235). -/
def exec_set_5_b (s : State) : Result := setBitOf 5 (.reg .b) s

/-- SET 5,C (R235). -/
def exec_set_5_c (s : State) : Result := setBitOf 5 (.reg .c) s

/-- SET 5,D (R235). -/
def exec_set_5_d (s : State) : Result := setBitOf 5 (.reg .d) s

/-- SET 5,E (R235). -/
def exec_set_5_e (s : State) : Result := setBitOf 5 (.reg .e) s

/-- SET 5,H (R235). -/
def exec_set_5_h (s : State) : Result := setBitOf 5 (.reg .h) s

/-- SET 5,L (R235). -/
def exec_set_5_l (s : State) : Result := setBitOf 5 (.reg .l) s

/-- SET 5,(HL) (R235). -/
def exec_set_5_atHL (s : State) : Result := setBitOf 5 .atHL s

/-- SET 5,A (R235). -/
def exec_set_5_a (s : State) : Result := setBitOf 5 (.reg .a) s

/-- SET 6,B (R235). -/
def exec_set_6_b (s : State) : Result := setBitOf 6 (.reg .b) s

/-- SET 6,C (R235). -/
def exec_set_6_c (s : State) : Result := setBitOf 6 (.reg .c) s

/-- SET 6,D (R235). -/
def exec_set_6_d (s : State) : Result := setBitOf 6 (.reg .d) s

/-- SET 6,E (R235). -/
def exec_set_6_e (s : State) : Result := setBitOf 6 (.reg .e) s

/-- SET 6,H (R235). -/
def exec_set_6_h (s : State) : Result := setBitOf 6 (.reg .h) s

/-- SET 6,L (R235). -/
def exec_set_6_l (s : State) : Result := setBitOf 6 (.reg .l) s

/-- SET 6,(HL) (R235). -/
def exec_set_6_atHL (s : State) : Result := setBitOf 6 .atHL s

/-- SET 6,A (R235). -/
def exec_set_6_a (s : State) : Result := setBitOf 6 (.reg .a) s

/-- SET 7,B (R235). -/
def exec_set_7_b (s : State) : Result := setBitOf 7 (.reg .b) s

/-- SET 7,C (R235). -/
def exec_set_7_c (s : State) : Result := setBitOf 7 (.reg .c) s

/-- SET 7,D (R235). -/
def exec_set_7_d (s : State) : Result := setBitOf 7 (.reg .d) s

/-- SET 7,E (R235). -/
def exec_set_7_e (s : State) : Result := setBitOf 7 (.reg .e) s

/-- SET 7,H (R235). -/
def exec_set_7_h (s : State) : Result := setBitOf 7 (.reg .h) s

/-- SET 7,L (R235). -/
def exec_set_7_l (s : State) : Result := setBitOf 7 (.reg .l) s

/-- SET 7,(HL) (R235). -/
def exec_set_7_atHL (s : State) : Result := setBitOf 7 .atHL s

/-- SET 7,A (R235). -/
def exec_set_7_a (s : State) : Result := setBitOf 7 (.reg .a) s

end Sys2Proof.Machine
end

