-- ==== Sys2Proof/Machine/Control.lean ====
section
/-!
DEFINITION. Control transfer (45_control.md rules R250 to R261). None writes a flag, and each writes the final pc
outright. First the operations of the family, then the meaning of each instruction.
-/

namespace Sys2Proof.Machine

/-- JP nn (R251). -/
def jumpTo (nn : Word) (s : State) : Result := .next (s.jump nn)

/-- JP cc,nn (R252). -/
def jumpIf (cc : Cond) (nn : Word) (s : State) : Result :=
  .next (if s.cond cc then s.jump nn else s.advance 3)

/-- JP (HL): no memory is read at HL (R253). -/
def jumpToHL (s : State) : Result := .next (s.jump s.hl)

/-- JR e: the displacement counts from the address after the instruction (R254). -/
def jumpRelative (e : Byte) (s : State) : Result := .next (s.jump (s.pc + 2 + signExtend8 e))

/-- JR cc,e (R255). -/
def jumpRelativeIf (cc : Cond) (e : Byte) (s : State) : Result :=
  .next (if s.cond cc then s.jump (s.pc + 2 + signExtend8 e) else s.advance 2)

/-- CALL nn: the return address is the one after the three bytes (R256). -/
def call (nn : Word) (s : State) : Result := outcome do
  let s' ← s.push16 (s.pc + 3)
  return s'.jump nn

/-- CALL cc,nn: nothing is pushed when the condition is false (R257). -/
def callIf (cc : Cond) (nn : Word) (s : State) : Result :=
  if s.cond cc then call nn s else .next (s.advance 3)

/-- RET, and RETI, which restores nothing else because nothing else was saved (R258, R260, R380). -/
def returnFrom (s : State) : Result := outcome do
  let (w, s') ← s.pop16
  return s'.jump w

/-- RET cc: the stack is not read when the condition is false (R259). -/
def returnIf (cc : Cond) (s : State) : Result :=
  if s.cond cc then returnFrom s else .next (s.advance 1)

/-- RST t: an ordinary call of one byte to the address 8 * t (R103, R261). -/
def restart (t : Fin 8) (s : State) : Result := outcome do
  let s' ← s.push16 (s.pc + 1)
  return s'.jump (BitVec.ofNat 16 (8 * t.val))

/-! ### The meanings -/

/-- JR e (R254). -/
def exec_jr_e (e : Byte) (s : State) : Result := jumpRelative e s

/-- JR NZ,e (R255). -/
def exec_jr_nz_e (e : Byte) (s : State) : Result := jumpRelativeIf .nz e s

/-- JR Z,e (R255). -/
def exec_jr_z_e (e : Byte) (s : State) : Result := jumpRelativeIf .z e s

/-- JR NC,e (R255). -/
def exec_jr_nc_e (e : Byte) (s : State) : Result := jumpRelativeIf .nc e s

/-- JR C,e (R255). -/
def exec_jr_c_e (e : Byte) (s : State) : Result := jumpRelativeIf .c e s

/-- RET NZ (R259). -/
def exec_ret_nz (s : State) : Result := returnIf .nz s

/-- JP NZ,nn (R252). -/
def exec_jp_nz_nn (nn : Word) (s : State) : Result := jumpIf .nz nn s

/-- JP nn (R251). -/
def exec_jp_nn (nn : Word) (s : State) : Result := jumpTo nn s

/-- CALL NZ,nn (R257). -/
def exec_call_nz_nn (nn : Word) (s : State) : Result := callIf .nz nn s

/-- RST 00H (R261). -/
def exec_rst_00 (s : State) : Result := restart 0 s

/-- RET Z (R259). -/
def exec_ret_z (s : State) : Result := returnIf .z s

/-- RET (R258). -/
def exec_ret (s : State) : Result := returnFrom s

/-- JP Z,nn (R252). -/
def exec_jp_z_nn (nn : Word) (s : State) : Result := jumpIf .z nn s

/-- CALL Z,nn (R257). -/
def exec_call_z_nn (nn : Word) (s : State) : Result := callIf .z nn s

/-- CALL nn (R256). -/
def exec_call_nn (nn : Word) (s : State) : Result := call nn s

/-- RST 08H (R261). -/
def exec_rst_08 (s : State) : Result := restart 1 s

/-- RET NC (R259). -/
def exec_ret_nc (s : State) : Result := returnIf .nc s

/-- JP NC,nn (R252). -/
def exec_jp_nc_nn (nn : Word) (s : State) : Result := jumpIf .nc nn s

/-- CALL NC,nn (R257). -/
def exec_call_nc_nn (nn : Word) (s : State) : Result := callIf .nc nn s

/-- RST 10H (R261). -/
def exec_rst_10 (s : State) : Result := restart 2 s

/-- RET C (R259). -/
def exec_ret_c (s : State) : Result := returnIf .c s

/-- RETI (R260). -/
def exec_reti (s : State) : Result := returnFrom s

/-- JP C,nn (R252). -/
def exec_jp_c_nn (nn : Word) (s : State) : Result := jumpIf .c nn s

/-- CALL C,nn (R257). -/
def exec_call_c_nn (nn : Word) (s : State) : Result := callIf .c nn s

/-- RST 18H (R261). -/
def exec_rst_18 (s : State) : Result := restart 3 s

/-- RST 20H (R261). -/
def exec_rst_20 (s : State) : Result := restart 4 s

/-- JP (HL) (R253). -/
def exec_jp_atHL (s : State) : Result := jumpToHL s

/-- RST 28H (R261). -/
def exec_rst_28 (s : State) : Result := restart 5 s

/-- RST 30H (R261). -/
def exec_rst_30 (s : State) : Result := restart 6 s

/-- RST 38H (R261). -/
def exec_rst_38 (s : State) : Result := restart 7 s

end Sys2Proof.Machine
end

