-- ==== Sys2Proof/Machine/Load16.lean ====
section
/-!
DEFINITION. The 16-bit loads, PUSH and POP (41_load16_stack.md rules R152 to R159). First the operations of the family,
then the meaning of each instruction.
-/

namespace Sys2Proof.Machine

/-- LD rr,nn (R152). -/
def loadPairImm (p : Pair) (nn : Word) (s : State) : Result := .next ((s.setPair p nn).advance 3)

/-- LD (nn),SP (R153). -/
def storeSP (nn : Word) (s : State) : Result := outcome do
  let s' ← s.writeWord nn s.sp
  return s'.advance 3

/-- LD SP,HL (R154). -/
def loadSPHL (s : State) : Result := .next (State.advance { s with sp := s.hl } 1)

/-- LD HL,SP+e (R155). -/
def loadHLSPPlusE (e : Byte) (s : State) : Result :=
  let (w, g) := spPlusE s.sp e
  .next (((s.setHL w).setFlags g).advance 2)

/-- PUSH (R156, R157). -/
def pushPair (q : StackPair) (s : State) : Result := outcome do
  let s' ← s.push16 (s.stackPair q)
  return s'.advance 1

/-- POP; into AF, F is masked with 0xF0 (R158, R159). -/
def popPair (q : StackPair) (s : State) : Result := outcome do
  let (w, s') ← s.pop16
  return (s'.setStackPair q w).advance 1

/-! ### The meanings -/

/-- LD BC,nn (R152). -/
def exec_ld_bc_nn (nn : Word) (s : State) : Result := loadPairImm .bc nn s

/-- LD (nn),SP (R153). -/
def exec_ld_atNn_sp (nn : Word) (s : State) : Result := storeSP nn s

/-- LD DE,nn (R152). -/
def exec_ld_de_nn (nn : Word) (s : State) : Result := loadPairImm .de nn s

/-- LD HL,nn (R152). -/
def exec_ld_hl_nn (nn : Word) (s : State) : Result := loadPairImm .hl nn s

/-- LD SP,nn (R152). -/
def exec_ld_sp_nn (nn : Word) (s : State) : Result := loadPairImm .sp nn s

/-- POP BC (R158). -/
def exec_pop_bc (s : State) : Result := popPair .bc s

/-- PUSH BC (R156). -/
def exec_push_bc (s : State) : Result := pushPair .bc s

/-- POP DE (R158). -/
def exec_pop_de (s : State) : Result := popPair .de s

/-- PUSH DE (R156). -/
def exec_push_de (s : State) : Result := pushPair .de s

/-- POP HL (R158). -/
def exec_pop_hl (s : State) : Result := popPair .hl s

/-- PUSH HL (R156). -/
def exec_push_hl (s : State) : Result := pushPair .hl s

/-- POP AF (R159). -/
def exec_pop_af (s : State) : Result := popPair .af s

/-- PUSH AF (R157). -/
def exec_push_af (s : State) : Result := pushPair .af s

/-- LD HL,SP+e (R155). -/
def exec_ld_hl_spPlusE (e : Byte) (s : State) : Result := loadHLSPPlusE e s

/-- LD SP,HL (R154). -/
def exec_ld_sp_hl (s : State) : Result := loadSPHL s

end Sys2Proof.Machine
end

