-- ==== Sys2Proof/Machine/Load8.lean ====
section
/-!
DEFINITION. The 8-bit loads (40_load8.md rules R120 to R138). None writes a flag. First the operations of the family,
then the meaning of each instruction.
-/

namespace Sys2Proof.Machine

/-- LD d,s on registers (R120). -/
def loadRegReg (dst src : Reg8) (s : State) : Result := .next ((s.setReg dst (s.reg src)).advance 1)

/-- LD d,(HL): HL is read before the register is written (R121). -/
def loadRegHL (dst : Reg8) (s : State) : Result := outcome do
  let v ← s.readByte s.hl
  return (s.setReg dst v).advance 1

/-- LD (HL),s (R122). -/
def storeHLReg (src : Reg8) (s : State) : Result := outcome do
  let s' ← s.writeByte s.hl (s.reg src)
  return s'.advance 1

/-- LD d,n and LD (HL),n (R123, R124). -/
def loadImm (dst : Operand8) (n : Byte) (s : State) : Result := outcome do
  let s' ← s.writeOperand dst n
  return s'.advance 2

/-- The loads of A from memory (R125, R126, R129, R131, R133, R136, R138). -/
def loadAcc (m : AccAddr) (s : State) : Result := outcome do
  let v ← s.readByte (s.accAddress m)
  let s' := State.accAfter { s with a := v } m
  return s'.advance (accLength m)

/-- The stores of A to memory: the store, then the change of HL (R127, R128, R130, R132, R134, R135, R137). -/
def storeAcc (m : AccAddr) (s : State) : Result := outcome do
  let s' ← s.writeByte (s.accAddress m) s.a
  return (s'.accAfter m).advance (accLength m)

/-! ### The meanings -/

/-- LD (BC),A (R127). -/
def exec_ld_atBC_a (s : State) : Result := storeAcc .bc s

/-- LD B,n (R123). -/
def exec_ld_b_n (n : Byte) (s : State) : Result := loadImm (.reg .b) n s

/-- LD A,(BC) (R125). -/
def exec_ld_a_atBC (s : State) : Result := loadAcc .bc s

/-- LD C,n (R123). -/
def exec_ld_c_n (n : Byte) (s : State) : Result := loadImm (.reg .c) n s

/-- LD (DE),A (R128). -/
def exec_ld_atDE_a (s : State) : Result := storeAcc .de s

/-- LD D,n (R123). -/
def exec_ld_d_n (n : Byte) (s : State) : Result := loadImm (.reg .d) n s

/-- LD A,(DE) (R126). -/
def exec_ld_a_atDE (s : State) : Result := loadAcc .de s

/-- LD E,n (R123). -/
def exec_ld_e_n (n : Byte) (s : State) : Result := loadImm (.reg .e) n s

/-- LD (HL+),A (R135). -/
def exec_ld_atHLinc_a (s : State) : Result := storeAcc .hlInc s

/-- LD H,n (R123). -/
def exec_ld_h_n (n : Byte) (s : State) : Result := loadImm (.reg .h) n s

/-- LD A,(HL+) (R136). -/
def exec_ld_a_atHLinc (s : State) : Result := loadAcc .hlInc s

/-- LD L,n (R123). -/
def exec_ld_l_n (n : Byte) (s : State) : Result := loadImm (.reg .l) n s

/-- LD (HL-),A (R137). -/
def exec_ld_atHLdec_a (s : State) : Result := storeAcc .hlDec s

/-- LD (HL),n (R124). -/
def exec_ld_atHL_n (n : Byte) (s : State) : Result := loadImm .atHL n s

/-- LD A,(HL-) (R138). -/
def exec_ld_a_atHLdec (s : State) : Result := loadAcc .hlDec s

/-- LD A,n (R123). -/
def exec_ld_a_n (n : Byte) (s : State) : Result := loadImm (.reg .a) n s

/-- LD B,B (R120). -/
def exec_ld_b_b (s : State) : Result := loadRegReg .b .b s

/-- LD B,C (R120). -/
def exec_ld_b_c (s : State) : Result := loadRegReg .b .c s

/-- LD B,D (R120). -/
def exec_ld_b_d (s : State) : Result := loadRegReg .b .d s

/-- LD B,E (R120). -/
def exec_ld_b_e (s : State) : Result := loadRegReg .b .e s

/-- LD B,H (R120). -/
def exec_ld_b_h (s : State) : Result := loadRegReg .b .h s

/-- LD B,L (R120). -/
def exec_ld_b_l (s : State) : Result := loadRegReg .b .l s

/-- LD B,(HL) (R121). -/
def exec_ld_b_atHL (s : State) : Result := loadRegHL .b s

/-- LD B,A (R120). -/
def exec_ld_b_a (s : State) : Result := loadRegReg .b .a s

/-- LD C,B (R120). -/
def exec_ld_c_b (s : State) : Result := loadRegReg .c .b s

/-- LD C,C (R120). -/
def exec_ld_c_c (s : State) : Result := loadRegReg .c .c s

/-- LD C,D (R120). -/
def exec_ld_c_d (s : State) : Result := loadRegReg .c .d s

/-- LD C,E (R120). -/
def exec_ld_c_e (s : State) : Result := loadRegReg .c .e s

/-- LD C,H (R120). -/
def exec_ld_c_h (s : State) : Result := loadRegReg .c .h s

/-- LD C,L (R120). -/
def exec_ld_c_l (s : State) : Result := loadRegReg .c .l s

/-- LD C,(HL) (R121). -/
def exec_ld_c_atHL (s : State) : Result := loadRegHL .c s

/-- LD C,A (R120). -/
def exec_ld_c_a (s : State) : Result := loadRegReg .c .a s

/-- LD D,B (R120). -/
def exec_ld_d_b (s : State) : Result := loadRegReg .d .b s

/-- LD D,C (R120). -/
def exec_ld_d_c (s : State) : Result := loadRegReg .d .c s

/-- LD D,D (R120). -/
def exec_ld_d_d (s : State) : Result := loadRegReg .d .d s

/-- LD D,E (R120). -/
def exec_ld_d_e (s : State) : Result := loadRegReg .d .e s

/-- LD D,H (R120). -/
def exec_ld_d_h (s : State) : Result := loadRegReg .d .h s

/-- LD D,L (R120). -/
def exec_ld_d_l (s : State) : Result := loadRegReg .d .l s

/-- LD D,(HL) (R121). -/
def exec_ld_d_atHL (s : State) : Result := loadRegHL .d s

/-- LD D,A (R120). -/
def exec_ld_d_a (s : State) : Result := loadRegReg .d .a s

/-- LD E,B (R120). -/
def exec_ld_e_b (s : State) : Result := loadRegReg .e .b s

/-- LD E,C (R120). -/
def exec_ld_e_c (s : State) : Result := loadRegReg .e .c s

/-- LD E,D (R120). -/
def exec_ld_e_d (s : State) : Result := loadRegReg .e .d s

/-- LD E,E (R120). -/
def exec_ld_e_e (s : State) : Result := loadRegReg .e .e s

/-- LD E,H (R120). -/
def exec_ld_e_h (s : State) : Result := loadRegReg .e .h s

/-- LD E,L (R120). -/
def exec_ld_e_l (s : State) : Result := loadRegReg .e .l s

/-- LD E,(HL) (R121). -/
def exec_ld_e_atHL (s : State) : Result := loadRegHL .e s

/-- LD E,A (R120). -/
def exec_ld_e_a (s : State) : Result := loadRegReg .e .a s

/-- LD H,B (R120). -/
def exec_ld_h_b (s : State) : Result := loadRegReg .h .b s

/-- LD H,C (R120). -/
def exec_ld_h_c (s : State) : Result := loadRegReg .h .c s

/-- LD H,D (R120). -/
def exec_ld_h_d (s : State) : Result := loadRegReg .h .d s

/-- LD H,E (R120). -/
def exec_ld_h_e (s : State) : Result := loadRegReg .h .e s

/-- LD H,H (R120). -/
def exec_ld_h_h (s : State) : Result := loadRegReg .h .h s

/-- LD H,L (R120). -/
def exec_ld_h_l (s : State) : Result := loadRegReg .h .l s

/-- LD H,(HL) (R121). -/
def exec_ld_h_atHL (s : State) : Result := loadRegHL .h s

/-- LD H,A (R120). -/
def exec_ld_h_a (s : State) : Result := loadRegReg .h .a s

/-- LD L,B (R120). -/
def exec_ld_l_b (s : State) : Result := loadRegReg .l .b s

/-- LD L,C (R120). -/
def exec_ld_l_c (s : State) : Result := loadRegReg .l .c s

/-- LD L,D (R120). -/
def exec_ld_l_d (s : State) : Result := loadRegReg .l .d s

/-- LD L,E (R120). -/
def exec_ld_l_e (s : State) : Result := loadRegReg .l .e s

/-- LD L,H (R120). -/
def exec_ld_l_h (s : State) : Result := loadRegReg .l .h s

/-- LD L,L (R120). -/
def exec_ld_l_l (s : State) : Result := loadRegReg .l .l s

/-- LD L,(HL) (R121). -/
def exec_ld_l_atHL (s : State) : Result := loadRegHL .l s

/-- LD L,A (R120). -/
def exec_ld_l_a (s : State) : Result := loadRegReg .l .a s

/-- LD (HL),B (R122). -/
def exec_ld_atHL_b (s : State) : Result := storeHLReg .b s

/-- LD (HL),C (R122). -/
def exec_ld_atHL_c (s : State) : Result := storeHLReg .c s

/-- LD (HL),D (R122). -/
def exec_ld_atHL_d (s : State) : Result := storeHLReg .d s

/-- LD (HL),E (R122). -/
def exec_ld_atHL_e (s : State) : Result := storeHLReg .e s

/-- LD (HL),H (R122). -/
def exec_ld_atHL_h (s : State) : Result := storeHLReg .h s

/-- LD (HL),L (R122). -/
def exec_ld_atHL_l (s : State) : Result := storeHLReg .l s

/-- LD (HL),A (R122). -/
def exec_ld_atHL_a (s : State) : Result := storeHLReg .a s

/-- LD A,B (R120). -/
def exec_ld_a_b (s : State) : Result := loadRegReg .a .b s

/-- LD A,C (R120). -/
def exec_ld_a_c (s : State) : Result := loadRegReg .a .c s

/-- LD A,D (R120). -/
def exec_ld_a_d (s : State) : Result := loadRegReg .a .d s

/-- LD A,E (R120). -/
def exec_ld_a_e (s : State) : Result := loadRegReg .a .e s

/-- LD A,H (R120). -/
def exec_ld_a_h (s : State) : Result := loadRegReg .a .h s

/-- LD A,L (R120). -/
def exec_ld_a_l (s : State) : Result := loadRegReg .a .l s

/-- LD A,(HL) (R121). -/
def exec_ld_a_atHL (s : State) : Result := loadRegHL .a s

/-- LD A,A (R120). -/
def exec_ld_a_a (s : State) : Result := loadRegReg .a .a s

/-- LDH (n),A (R132). -/
def exec_ldh_atN_a (n : Byte) (s : State) : Result := storeAcc (.high n) s

/-- LD (C),A (R134). -/
def exec_ld_atC_a (s : State) : Result := storeAcc .highC s

/-- LD (nn),A (R130). -/
def exec_ld_atNn_a (nn : Word) (s : State) : Result := storeAcc (.imm nn) s

/-- LDH A,(n) (R131). -/
def exec_ldh_a_atN (n : Byte) (s : State) : Result := loadAcc (.high n) s

/-- LD A,(C) (R133). -/
def exec_ld_a_atC (s : State) : Result := loadAcc .highC s

/-- LD A,(nn) (R129). -/
def exec_ld_a_atNn (nn : Word) (s : State) : Result := loadAcc (.imm nn) s

end Sys2Proof.Machine
end

