-- ==== Sys2Proof/Machine/Rotate.lean ====
section
/-!
DEFINITION. Rotates, shifts and SWAP (44_rotate_shift_bit.md rules R220 to R232). First the operations of the family,
then the meaning of each instruction.
-/

namespace Sys2Proof.Machine

/-- RLCA, RRCA, RLA, RRA: what RLC, RRC, RL and RR compute, on A, with Z = 0 (R220 to R223). -/
def rotateA (o : ShiftOp) (s : State) : Result :=
  let (r, out) := shiftResult o s.a s.flagC
  .next ((State.setFlags { s with a := r } (accRotateFlags out)).advance 1)

/-- A rotate or shift of the CB table: the operand is read once and written back (R224 to R232). -/
def shiftOperand (o : ShiftOp) (dst : Operand8) (s : State) : Result := outcome do
  let v ← s.readOperand dst
  let (r, out) := shiftResult o v s.flagC
  let s' ← s.writeOperand dst r
  return (s'.setFlags (shiftFlags r out)).advance 2

/-! ### The meanings -/

/-- RLCA (R220). -/
def exec_rlca (s : State) : Result := rotateA .rlc s

/-- RRCA (R221). -/
def exec_rrca (s : State) : Result := rotateA .rrc s

/-- RLA (R222). -/
def exec_rla (s : State) : Result := rotateA .rl s

/-- RRA (R223). -/
def exec_rra (s : State) : Result := rotateA .rr s

/-- RLC B (R225). -/
def exec_rlc_b (s : State) : Result := shiftOperand .rlc (.reg .b) s

/-- RLC C (R225). -/
def exec_rlc_c (s : State) : Result := shiftOperand .rlc (.reg .c) s

/-- RLC D (R225). -/
def exec_rlc_d (s : State) : Result := shiftOperand .rlc (.reg .d) s

/-- RLC E (R225). -/
def exec_rlc_e (s : State) : Result := shiftOperand .rlc (.reg .e) s

/-- RLC H (R225). -/
def exec_rlc_h (s : State) : Result := shiftOperand .rlc (.reg .h) s

/-- RLC L (R225). -/
def exec_rlc_l (s : State) : Result := shiftOperand .rlc (.reg .l) s

/-- RLC (HL) (R225). -/
def exec_rlc_atHL (s : State) : Result := shiftOperand .rlc .atHL s

/-- RLC A (R225). -/
def exec_rlc_a (s : State) : Result := shiftOperand .rlc (.reg .a) s

/-- RRC B (R226). -/
def exec_rrc_b (s : State) : Result := shiftOperand .rrc (.reg .b) s

/-- RRC C (R226). -/
def exec_rrc_c (s : State) : Result := shiftOperand .rrc (.reg .c) s

/-- RRC D (R226). -/
def exec_rrc_d (s : State) : Result := shiftOperand .rrc (.reg .d) s

/-- RRC E (R226). -/
def exec_rrc_e (s : State) : Result := shiftOperand .rrc (.reg .e) s

/-- RRC H (R226). -/
def exec_rrc_h (s : State) : Result := shiftOperand .rrc (.reg .h) s

/-- RRC L (R226). -/
def exec_rrc_l (s : State) : Result := shiftOperand .rrc (.reg .l) s

/-- RRC (HL) (R226). -/
def exec_rrc_atHL (s : State) : Result := shiftOperand .rrc .atHL s

/-- RRC A (R226). -/
def exec_rrc_a (s : State) : Result := shiftOperand .rrc (.reg .a) s

/-- RL B (R227). -/
def exec_rl_b (s : State) : Result := shiftOperand .rl (.reg .b) s

/-- RL C (R227). -/
def exec_rl_c (s : State) : Result := shiftOperand .rl (.reg .c) s

/-- RL D (R227). -/
def exec_rl_d (s : State) : Result := shiftOperand .rl (.reg .d) s

/-- RL E (R227). -/
def exec_rl_e (s : State) : Result := shiftOperand .rl (.reg .e) s

/-- RL H (R227). -/
def exec_rl_h (s : State) : Result := shiftOperand .rl (.reg .h) s

/-- RL L (R227). -/
def exec_rl_l (s : State) : Result := shiftOperand .rl (.reg .l) s

/-- RL (HL) (R227). -/
def exec_rl_atHL (s : State) : Result := shiftOperand .rl .atHL s

/-- RL A (R227). -/
def exec_rl_a (s : State) : Result := shiftOperand .rl (.reg .a) s

/-- RR B (R228). -/
def exec_rr_b (s : State) : Result := shiftOperand .rr (.reg .b) s

/-- RR C (R228). -/
def exec_rr_c (s : State) : Result := shiftOperand .rr (.reg .c) s

/-- RR D (R228). -/
def exec_rr_d (s : State) : Result := shiftOperand .rr (.reg .d) s

/-- RR E (R228). -/
def exec_rr_e (s : State) : Result := shiftOperand .rr (.reg .e) s

/-- RR H (R228). -/
def exec_rr_h (s : State) : Result := shiftOperand .rr (.reg .h) s

/-- RR L (R228). -/
def exec_rr_l (s : State) : Result := shiftOperand .rr (.reg .l) s

/-- RR (HL) (R228). -/
def exec_rr_atHL (s : State) : Result := shiftOperand .rr .atHL s

/-- RR A (R228). -/
def exec_rr_a (s : State) : Result := shiftOperand .rr (.reg .a) s

/-- SLA B (R229). -/
def exec_sla_b (s : State) : Result := shiftOperand .sla (.reg .b) s

/-- SLA C (R229). -/
def exec_sla_c (s : State) : Result := shiftOperand .sla (.reg .c) s

/-- SLA D (R229). -/
def exec_sla_d (s : State) : Result := shiftOperand .sla (.reg .d) s

/-- SLA E (R229). -/
def exec_sla_e (s : State) : Result := shiftOperand .sla (.reg .e) s

/-- SLA H (R229). -/
def exec_sla_h (s : State) : Result := shiftOperand .sla (.reg .h) s

/-- SLA L (R229). -/
def exec_sla_l (s : State) : Result := shiftOperand .sla (.reg .l) s

/-- SLA (HL) (R229). -/
def exec_sla_atHL (s : State) : Result := shiftOperand .sla .atHL s

/-- SLA A (R229). -/
def exec_sla_a (s : State) : Result := shiftOperand .sla (.reg .a) s

/-- SRA B (R230). -/
def exec_sra_b (s : State) : Result := shiftOperand .sra (.reg .b) s

/-- SRA C (R230). -/
def exec_sra_c (s : State) : Result := shiftOperand .sra (.reg .c) s

/-- SRA D (R230). -/
def exec_sra_d (s : State) : Result := shiftOperand .sra (.reg .d) s

/-- SRA E (R230). -/
def exec_sra_e (s : State) : Result := shiftOperand .sra (.reg .e) s

/-- SRA H (R230). -/
def exec_sra_h (s : State) : Result := shiftOperand .sra (.reg .h) s

/-- SRA L (R230). -/
def exec_sra_l (s : State) : Result := shiftOperand .sra (.reg .l) s

/-- SRA (HL) (R230). -/
def exec_sra_atHL (s : State) : Result := shiftOperand .sra .atHL s

/-- SRA A (R230). -/
def exec_sra_a (s : State) : Result := shiftOperand .sra (.reg .a) s

/-- SWAP B (R231). -/
def exec_swap_b (s : State) : Result := shiftOperand .swap (.reg .b) s

/-- SWAP C (R231). -/
def exec_swap_c (s : State) : Result := shiftOperand .swap (.reg .c) s

/-- SWAP D (R231). -/
def exec_swap_d (s : State) : Result := shiftOperand .swap (.reg .d) s

/-- SWAP E (R231). -/
def exec_swap_e (s : State) : Result := shiftOperand .swap (.reg .e) s

/-- SWAP H (R231). -/
def exec_swap_h (s : State) : Result := shiftOperand .swap (.reg .h) s

/-- SWAP L (R231). -/
def exec_swap_l (s : State) : Result := shiftOperand .swap (.reg .l) s

/-- SWAP (HL) (R231). -/
def exec_swap_atHL (s : State) : Result := shiftOperand .swap .atHL s

/-- SWAP A (R231). -/
def exec_swap_a (s : State) : Result := shiftOperand .swap (.reg .a) s

/-- SRL B (R232). -/
def exec_srl_b (s : State) : Result := shiftOperand .srl (.reg .b) s

/-- SRL C (R232). -/
def exec_srl_c (s : State) : Result := shiftOperand .srl (.reg .c) s

/-- SRL D (R232). -/
def exec_srl_d (s : State) : Result := shiftOperand .srl (.reg .d) s

/-- SRL E (R232). -/
def exec_srl_e (s : State) : Result := shiftOperand .srl (.reg .e) s

/-- SRL H (R232). -/
def exec_srl_h (s : State) : Result := shiftOperand .srl (.reg .h) s

/-- SRL L (R232). -/
def exec_srl_l (s : State) : Result := shiftOperand .srl (.reg .l) s

/-- SRL (HL) (R232). -/
def exec_srl_atHL (s : State) : Result := shiftOperand .srl .atHL s

/-- SRL A (R232). -/
def exec_srl_a (s : State) : Result := shiftOperand .srl (.reg .a) s

end Sys2Proof.Machine
end

