-- ==== Sys2Proof/Machine/System.lean ====
section
/-!
DEFINITION. NOP, HALT, STOP, DI, EI and the illegal bytes (46_system.md rules R280 to R285). First the operations of the
family, then the meaning of each instruction.
-/

namespace Sys2Proof.Machine

/-- NOP, DI and EI: only pc moves; there is no interrupt master enable in the block (R280, R283, R284). -/
def noEffect (s : State) : Result := .next (s.advance 1)

/-- HALT: the flag is set and nothing reads it (R281). -/
def haltOp (s : State) : Result := .next (State.advance { s with halted := true } 1)

/-- STOP: the flag is set, and pc moves over STOP_LEN bytes; a second byte is neither read nor checked (R282). -/
def stopOp (len : StopLength) (s : State) : Result := .next (State.advance { s with stopped := true } len.toNat)

/-- ILLEGAL: the run ends with no state written (R285, R373). -/
def illegalOp (op : Byte) (s : State) : Result := outcome (raise (.illegalOpcode op) s)

/-! ### The meanings -/

/-- NOP (R280). -/
def exec_nop (s : State) : Result := noEffect s

/-- STOP (R282). -/
def exec_stop (s : State) : Result := stopOp .two s

/-- HALT (R281). -/
def exec_halt (s : State) : Result := haltOp s

/-- ILLEGAL (R285). -/
def exec_illegal (op : Byte) (s : State) : Result := illegalOp op s

/-- DI (R283). -/
def exec_di (s : State) : Result := noEffect s

/-- EI (R284). -/
def exec_ei (s : State) : Result := noEffect s

/-- STOP, where STOP_LEN is 1 (R282). -/
def exec_stopOneByte (s : State) : Result := stopOp .one s

end Sys2Proof.Machine
end

