-- ==== Sys2Proof/Machine/Renderer.lean ====
section
/-!
DEFINITION. The scanline renderer (48_renderer.md). It reads LCDC, SCY, SCX, WY, WX and video RAM through the bus, at
addresses that are always mapped (R65, R332), and writes only the framebuffer.
-/

namespace Sys2Proof.Machine

/-- LCDC (R37). -/
def lcdcAddr : Word := 0xFF40

/-- SCY (R41). -/
def scyAddr : Word := 0xFF42

/-- SCX (R41). -/
def scxAddr : Word := 0xFF43

/-- WY (R36). -/
def wyAddr : Word := 0xFF4A

/-- WX (R36). -/
def wxAddr : Word := 0xFF4B

/-- The base of the tile map a bit of LCDC selects (R331, R335). -/
def mapBase (select : Bool) : Word := if select then 0x9C00 else 0x9800

/-- The address of a tile's sixteen bytes: unsigned indexing from 0x8000 or signed indexing from 0x9000 (R332). -/
def tileAddress (unsignedIndex : Bool) (idx : Byte) : Word :=
  if unsignedIndex then 0x8000 + idx.setWidth 16 * 16 else 0x9000 + signExtend8 idx * 16

/-- `TilePixel(lcdc, mapbase, cx, cy)` (R332, R333). -/
def tilePixel (s : State) (lcdc : Byte) (mapbase : Word) (cx cy : Nat) : Shade :=
  let idx := s.peek (mapbase + BitVec.ofNat 16 (cy / 8 * 32 + cx / 8))
  let rowAddr := tileAddress (lcdc.getLsbD 4) idx + BitVec.ofNat 16 (cy % 8 * 2)
  let lo := s.peek rowAddr
  let hi := s.peek (rowAddr + 1)
  let bit := 7 - cx % 8
  BitVec.ofBool (hi.getLsbD bit) ++ BitVec.ofBool (lo.getLsbD bit)

/-- The background pixel of column `x` of line `y` (R331). -/
def backgroundPixel (s : State) (y x : Nat) : Shade :=
  let lcdc := s.peek lcdcAddr
  let bx := (x + (s.peek scxAddr).toNat) % 256
  let cy := (y + (s.peek scyAddr).toNat) % 256
  tilePixel s lcdc (mapBase (lcdc.getLsbD 3)) bx cy

/-- The window covers column `x` of line `y` (R334, R335). -/
def windowCovers (s : State) (y x : Nat) : Bool :=
  (s.peek lcdcAddr).getLsbD 5 && (s.peek wyAddr).toNat ≤ y && (s.peek wxAddr).toNat ≤ x + 7

/-- The window pixel of a covered column (R335). -/
def windowPixel (s : State) (y x : Nat) : Shade :=
  let lcdc := s.peek lcdcAddr
  let cx := x + 7 - (s.peek wxAddr).toNat
  let cy := y - (s.peek wyAddr).toNat
  tilePixel s lcdc (mapBase (lcdc.getLsbD 6)) cx cy

/-- The pixel of column `x` of line `y`: the background, then the window where it is drawn (R330). -/
def linePixel (s : State) (y x : Nat) : Shade :=
  if windowCovers s y x then windowPixel s y x else backgroundPixel s y x

/-- `RenderLine(y)`: the whole row `fb[y]` is overwritten (R330, R336). There is no row of 144 or more (R336), and the
PPU never asks for one from a state a run reaches (R34; log entry 7). -/
def State.renderLine (s : State) (y : Nat) : State :=
  if h : y < 144 then
    { s with fb := s.fb.set y (Vector.ofFn fun x => linePixel s y x.val) h }
  else s

end Sys2Proof.Machine
end

