-- ==== Sys2Proof/Machine/Ppu.lean ====
section
/-!
DEFINITION. The PPU mode state machine (47_ppu_modes.md). Its registers are bytes of memory at addresses that are always
mapped and writable, so it never faults (R65, R308).
-/

namespace Sys2Proof.Machine

/-- IF (R39). -/
def ifAddr : Word := 0xFF0F

/-- STAT (R38). -/
def statAddr : Word := 0xFF41

/-- LY (R40). -/
def lyAddr : Word := 0xFF44

/-- LYC (R40). -/
def lycAddr : Word := 0xFF45

/-- `Budget(mode)` (R301). -/
def budget : PpuMode → Nat
  | .accessOAM => 80
  | .accessVRAM => 172
  | .hblank => 204
  | .vblank => 456

/-- The code of a mode in STAT bits 1:0 (R307). -/
def modeCode : PpuMode → Byte
  | .hblank => 0
  | .vblank => 1
  | .accessOAM => 2
  | .accessVRAM => 3

/-- `SetBit(a, i)` (R308). -/
def State.setMemBit (s : State) (addr : Word) (i : Fin 8) : State := s.poke addr (setBit (s.peek addr) i)

/-- `ClearBit(a, i)` (R308). -/
def State.clearMemBit (s : State) (addr : Word) (i : Fin 8) : State := s.poke addr (resBit (s.peek addr) i)

/-- `SetMode(m)`: bits 7 to 2 of STAT are preserved (R307). -/
def State.setMode (s : State) (m : PpuMode) : State :=
  State.poke { s with ppuMode := m } statAddr ((s.peek statAddr &&& 0xFC) ||| modeCode m)

/-- The new line, published to LY (R305, R306). -/
def State.setLine (s : State) (line : Nat) : State :=
  State.poke { s with ppuLine := line } lyAddr (BitVec.ofNat 8 line)

/-- Leaving AccessOAM (R303). -/
def State.leaveOAM (s : State) : State := s.setMode .accessVRAM

/-- Leaving AccessVRAM: the mode, the HBlank interrupt, and the coincidence of the two register bytes (R304). -/
def State.leaveVRAM (s : State) : State :=
  let s := s.setMode .hblank
  let s := if (s.peek statAddr).getLsbD 3 then s.setMemBit ifAddr 1 else s
  let eq : Bool := s.peek lyAddr = s.peek lycAddr
  let s := if eq then s.setMemBit statAddr 2 else s.clearMemBit statAddr 2
  if eq && (s.peek statAddr).getLsbD 6 then s.setMemBit ifAddr 1 else s

/-- Leaving HBlank: the line is rendered, then the counter moves (R305). -/
def State.leaveHBlank (s : State) : State :=
  let s := s.renderLine s.ppuLine
  let s := s.setLine (s.ppuLine + 1)
  if s.ppuLine = 144 then (s.setMode .vblank).setMemBit ifAddr 0 else s.setMode .accessOAM

/-- Frame emission: a copy of the framebuffer goes to the frame stream (R306). -/
def State.emitFrame (s : State) : State := { s with frames := s.frames ++ [s.fb] }

/-- Leaving a VBlank scanline: at 154 the frame is emitted and the next one begins (R306). -/
def State.leaveVBlank (s : State) : State :=
  let s := s.setLine (s.ppuLine + 1)
  if s.ppuLine = 154 then (s.emitFrame.setLine 0).setMode .accessOAM else s

/-- `Leave(mode)` (R302). -/
def State.leaveMode (s : State) : State :=
  match s.ppuMode with
  | .accessOAM => s.leaveOAM
  | .accessVRAM => s.leaveVRAM
  | .hblank => s.leaveHBlank
  | .vblank => s.leaveVBlank

/-- One pass of the loop of `Tick`: the budget is subtracted and the mode is left (R302). -/
def State.passMode (s : State) : State :=
  State.leaveMode { s with ppuAcc := s.ppuAcc - budget s.ppuMode }

/-- The loop of `Tick`, at most `fuel` passes (R302). -/
def tickLoop : Nat → State → State
  | 0, s => s
  | fuel + 1, s => if budget s.ppuMode ≤ s.ppuAcc then tickLoop fuel s.passMode else s

/-- `Tick(c)` (R302). Every pass takes at least 80 off the accumulator, so as many passes as the accumulator holds are
enough for the loop to end. -/
def State.tick (s : State) (c : Nat) : State :=
  tickLoop (s.ppuAcc + c) { s with ppuAcc := s.ppuAcc + c }

end Sys2Proof.Machine
end

