-- ==== Sys2Proof/Machine/Serial.lean ====
section
/-!
DEFINITION. The serial diagnostic tap (49_machine_step.md rule R355).
-/

namespace Sys2Proof.Machine

/-- SB (R42). -/
def sbAddr : Word := 0xFF01

/-- SC (R42). -/
def scAddr : Word := 0xFF02

/-- `SerialTap()`: when SC holds the sentinel, SB is appended to the text and SC is cleared (R355). -/
def State.serialTap (s : State) (cfg : Config) : State :=
  if s.peek scAddr = cfg.serialSentinel then
    State.poke { s with text := s.text ++ [s.peek sbAddr] } scAddr 0x00
  else s

end Sys2Proof.Machine
end

