-- ==== Sys2Proof/Machine/Cycle.lean ====
section
/-!
DEFINITION. What a step does once its instruction is known (49_machine_step.md rules R351, R354): execute it, tick the
PPU by its cost, run the serial tap.
-/

namespace Sys2Proof.Machine

/-- The two parts of a step after the instruction itself: the tick by its cost, then the tap (R351, R353). -/
def State.afterExecute (s : State) (cfg : Config) (i : Instr) : State := (s.tick (cost cfg i)).serialTap cfg

/-- Execute an instruction, tick, tap. A fault ends the run with no tick and no tap (R351, R354, R372). -/
def cycle (cfg : Config) (i : Instr) (s : State) : Result :=
  match exec i s with
  | .next s' => .next (s'.afterExecute cfg i)
  | .fault r => .fault r
  | .refused r => .refused r

end Sys2Proof.Machine
end

