-- ==== Sys2Proof/Machine/Fetch.lean ====
section
/-!
DEFINITION. Fetching an instruction (30_encoding.md rules R90 to R93), and placing one where it will be fetched.
-/

namespace Sys2Proof.Machine

/-- How many bytes the fetch reads: those of the instruction, but for STOP the opcode byte alone, whatever STOP_LEN is
(R93). So it is the length the instruction has where STOP_LEN is 1. -/
def fetchLength (op : Byte) : Nat := instrLength .one op

/-- Fetch and decode the instruction at pc: its bytes are read in ascending order, each read may fault, and nothing else
is accessed before the last of them (R93, R104). `len` is the parameter STOP_LEN. -/
def State.fetch (s : State) (len : StopLength) : Except Fault Instr := do
  let op ← s.readByte s.pc
  let b1 ← if 2 ≤ fetchLength op then s.readByte (s.pc + 1) else .ok 0
  let b2 ← if 3 ≤ fetchLength op then s.readByte (s.pc + 2) else .ok 0
  return decodeBytes len op b1 b2

/-- Place a byte at a bus address as the host does when it supplies INIT_MEM: in ROM too (R358). The unmapped gap has no
bytes, so a placement there changes nothing. -/
def State.plant (s : State) (addr : Word) (v : Byte) : State :=
  match resolve addr with
  | some p => { s with mem := s.mem.put p v }
  | none => s

/-- Place the table word `w` of `nbits` bits at pc, with zeros after it up to three bytes, in a machine whose run is not
over (R352, log entry 9). -/
def State.plantWord (s : State) (nbits w : Nat) : State :=
  let (b0, b1, b2) := tableBytes nbits w
  let s := { s with stopped := false }
  ((s.plant s.pc b0).plant (s.pc + 1) b1).plant (s.pc + 2) b2

end Sys2Proof.Machine
end

