-- ==== Sys2Proof/Machine/Params.lean ====
section
/-!
DEFINITION. The parameters of 00_scope.md rule R9 at the values the spec recommends. DESIGN CHOICE (log entries 3, 4
and 5, unsafe): the spec leaves them open and calls its own values defaults.
-/

namespace Sys2Proof.Machine

/-- The default CYCLES_MAIN, row by high nibble and column by low nibble; a conditional transfer has its not-taken
figure, and 0 marks an entry that is never used (R412). -/
def cyclesMainRows : List (List Nat) :=
  [ [1, 3, 2, 2, 1, 1, 2, 1, 5, 2, 2, 2, 1, 1, 2, 1],
    [1, 3, 2, 2, 1, 1, 2, 1, 3, 2, 2, 2, 1, 1, 2, 1],
    [2, 3, 2, 2, 1, 1, 2, 1, 2, 2, 2, 2, 1, 1, 2, 1],
    [2, 3, 2, 2, 3, 3, 3, 1, 2, 2, 2, 2, 1, 1, 2, 1],
    [1, 1, 1, 1, 1, 1, 2, 1, 1, 1, 1, 1, 1, 1, 2, 1],
    [1, 1, 1, 1, 1, 1, 2, 1, 1, 1, 1, 1, 1, 1, 2, 1],
    [1, 1, 1, 1, 1, 1, 2, 1, 1, 1, 1, 1, 1, 1, 2, 1],
    [2, 2, 2, 2, 2, 2, 1, 2, 1, 1, 1, 1, 1, 1, 2, 1],
    [1, 1, 1, 1, 1, 1, 2, 1, 1, 1, 1, 1, 1, 1, 2, 1],
    [1, 1, 1, 1, 1, 1, 2, 1, 1, 1, 1, 1, 1, 1, 2, 1],
    [1, 1, 1, 1, 1, 1, 2, 1, 1, 1, 1, 1, 1, 1, 2, 1],
    [1, 1, 1, 1, 1, 1, 2, 1, 1, 1, 1, 1, 1, 1, 2, 1],
    [2, 3, 3, 4, 3, 4, 2, 4, 2, 4, 3, 0, 3, 6, 2, 4],
    [2, 3, 3, 0, 3, 4, 2, 4, 2, 4, 3, 0, 3, 0, 2, 4],
    [3, 3, 2, 0, 0, 4, 2, 4, 4, 1, 4, 0, 0, 0, 2, 4],
    [3, 3, 2, 1, 0, 4, 2, 4, 3, 2, 4, 1, 0, 0, 2, 4] ]

/-- The default CYCLES_MAIN (R412). -/
def defaultCyclesMain (op : Byte) : Nat := (cyclesMainRows.getD (op.toNat / 16) []).getD (op.toNat % 16) 0

/-- The default CYCLES_CB: 2 on a register; on (HL), 3 for BIT and 4 for everything else (R413). -/
def defaultCyclesCB (op2 : Byte) : Nat :=
  if op2.toNat % 8 ≠ 6 then 2 else if op2.toNat / 64 = 1 then 3 else 4

/-- The parameters at the spec's defaults (R9, R282, R355, R412, R413). -/
def standardConfig : Config where
  cyclesMain := defaultCyclesMain
  ldAnCost := rfl
  cyclesCB := defaultCyclesCB
  serialSentinel := 0x81
  stopLength := .two

end Sys2Proof.Machine
end

