-- ==== Sys2Proof/Machine/Step.lean ====
section
/-!
DEFINITION. One step of the machine (49_machine_step.md rules R351, R352), and the placing of an instruction where the
next step fetches it.
-/

namespace Sys2Proof.Machine

/-- One step, for any values of the parameters. While `stopped` is false: fetch at pc, execute, tick, tap (R351). Once
it is true the run is over and no instruction is ever executed (R352): the step answers the state it was given (log entry
6). -/
def stepWith (cfg : Config) (s : State) : Result :=
  if s.stopped then .next s
  else
    match s.fetch cfg.stopLength with
    | .ok i => cycle cfg i s
    | .error r => .fault r

/-- One step, with the parameters at the spec's defaults (R9, R351, R352). -/
def step (s : State) : Host.Outcome State Fault Refusal := stepWith standardConfig s

/-- The state with the table word `w` of `nbits` bits placed where the next step fetches its instruction. -/
def State.withFetchWord (s : State) (nbits w : Nat) : State := s.plantWord nbits w

end Sys2Proof.Machine
end

