-- ==== Sys2Proof/Safety.lean ====
section
/-!
DEFINITION. What the claims mean by a state a run can be in: the invariant of 10_state.md rules
R26 and R34 and 20_memory.md rule R58, reachability by steps, and the words the claims use for what an instruction changes and what it leaves alone.
-/

namespace Sys2Proof.Machine

/-- The line is one the mode has (R34). -/
abbrev State.LineInv (s : State) : Prop :=
  match s.ppuMode with
  | .vblank => 144 ≤ s.ppuLine ∧ s.ppuLine ≤ 153
  | _ => s.ppuLine ≤ 143

/-- The PPU part of the invariant: the accumulator is below the budget of the mode, and the line is one the mode has
(R34). -/
abbrev State.PpuInv (s : State) : Prop := s.ppuAcc < budget s.ppuMode ∧ s.LineInv

/-- The flags part of the invariant: `F[3:0] = 0` (R26). -/
abbrev State.FlagsInv (s : State) : Prop := s.f &&& 0x0F = 0

/-- The memory part of the invariant: the canonical form, over backing addresses only (R58). -/
abbrev State.MemInv (s : State) : Prop := s.mem.wf ∧ s.mem.backed

/-- What holds of every state a run can be in between two steps (R26, R34, R58). -/
structure State.Inv (s : State) : Prop where
  flags : s.FlagsInv
  ppu : s.PpuInv
  mem : s.MemInv

/-- `t` follows from `s` by steps of the machine with the parameters `cfg`. -/
inductive Reaches (cfg : Config) : State → State → Prop where
  | refl (s : State) : Reaches cfg s s
  | tail {s t u : State} (h : Reaches cfg s t) (hstep : stepWith cfg t = .next u) : Reaches cfg s u

/-- How many cost units of its line a mode begins after (R301). -/
def modeStart : PpuMode → Nat
  | .accessOAM => 0
  | .accessVRAM => 80
  | .hblank => 252
  | .vblank => 0

/-- How far the PPU has come, in cost units: frames emitted, lines, and the position within the line (R301, R311). -/
def State.ppuPosition (s : State) : Nat :=
  70224 * s.frames.length + 456 * s.ppuLine + modeStart s.ppuMode + s.ppuAcc

/-! ### What an instruction changes and what it leaves alone -/

/-- The address is one that an access completes at: it is not in the unmapped gap (R52). -/
abbrev Mapped (addr : Word) : Prop := addr.toNat < 0xFEA0 ∨ 0xFEFF < addr.toNat

/-- Every address reads as before. -/
abbrev SameMemory (s t : State) : Prop := ∀ x, t.peek x = s.peek x

/-- `v` was stored at `addr` and nowhere else: every address of that byte (its echo included) reads as `v`, or as before
where the byte is ROM, and every other address reads as before (R53, R54, R62). -/
def Stored (s t : State) (addr : Word) (v : Byte) : Prop :=
  (∀ x, resolve x = resolve addr → t.peek x = if addr.toNat ≤ 0x7FFF then s.peek x else v) ∧
    ∀ x, resolve x ≠ resolve addr → t.peek x = s.peek x

/-- `w` was stored low byte at `addr`, high byte at the next address, each as `Stored` says, and nothing else was. -/
def StoredWord (s t : State) (addr w : Word) : Prop :=
  (∀ x, resolve x = resolve addr → t.peek x = if addr.toNat ≤ 0x7FFF then s.peek x else loByte w) ∧
    (∀ x, resolve x = resolve (addr + 1) → t.peek x = if (addr + 1).toNat ≤ 0x7FFF then s.peek x else hiByte w) ∧
    ∀ x, resolve x ≠ resolve addr → resolve x ≠ resolve (addr + 1) → t.peek x = s.peek x

/-- The seven registers are unchanged. -/
abbrev SameRegs (s t : State) : Prop := ∀ r, t.reg r = s.reg r

/-- `dst` holds `v`, and the other registers are unchanged. -/
abbrev OnlyReg (s t : State) (dst : Reg8) (v : Byte) : Prop := ∀ r, t.reg r = if r = dst then v else s.reg r

/-- The pair holds `w`, and no other register and, but for the pair SP, not SP has changed. -/
def OnlyPair (s t : State) (p : Pair) (w : Word) : Prop :=
  match p with
  | .bc => (∀ r, t.reg r = if r = .b then hiByte w else if r = .c then loByte w else s.reg r) ∧ t.sp = s.sp
  | .de => (∀ r, t.reg r = if r = .d then hiByte w else if r = .e then loByte w else s.reg r) ∧ t.sp = s.sp
  | .hl => (∀ r, t.reg r = if r = .h then hiByte w else if r = .l then loByte w else s.reg r) ∧ t.sp = s.sp
  | .sp => SameRegs s t ∧ t.sp = w

/-- The two run-control booleans, the PPU, the framebuffer and the two outputs are unchanged. -/
structure SameOutside (s t : State) : Prop where
  stopped : t.stopped = s.stopped
  halted : t.halted = s.halted
  ppuLine : t.ppuLine = s.ppuLine
  ppuMode : t.ppuMode = s.ppuMode
  ppuAcc : t.ppuAcc = s.ppuAcc
  fb : t.fb = s.fb
  text : t.text = s.text
  frames : t.frames = s.frames

/-- The four flags, and the low nibble of the flags cell zero (R26). -/
structure FlagsAre (t : State) (z n h c : Bool) : Prop where
  z : t.flagZ = z
  n : t.flagN = n
  h : t.flagH = h
  c : t.flagC = c
  low : t.f &&& 0x0F = 0

/-- The condition holds: of the zero flag for NZ and Z, of the carry flag for NC and C (R100, R250). -/
def CondHolds (s : State) : Cond → Prop
  | .nz => s.f.getLsbD 7 = false
  | .z => s.f.getLsbD 7 = true
  | .nc => s.f.getLsbD 4 = false
  | .c => s.f.getLsbD 4 = true

/-- The operand can be read, and holds `v` (R95). -/
def OperandIs (s : State) (x : Operand8) (v : Byte) : Prop :=
  match x with
  | .reg r => s.reg r = v
  | .atHL => Mapped s.hl ∧ s.peek s.hl = v

/-- `v` was written to the operand, and to no other register or byte (R95). -/
def OperandWritten (s t : State) (x : Operand8) (v : Byte) : Prop :=
  match x with
  | .reg dst => OnlyReg s t dst v ∧ SameMemory s t
  | .atHL => SameRegs s t ∧ Stored s t s.hl v

/-- The forms of an ALU operation: the instruction, its operand's value and its length (R172 to R187). -/
inductive AluForm (s : State) (o : AluOp) : Instr → Byte → Word → Prop where
  | operand {x : Operand8} {v : Byte} (h : OperandIs s x v) : AluForm s o (.alu o x) v 1
  | immediate (n : Byte) : AluForm s o (.aluImm o n) n 2

end Sys2Proof.Machine
end

