-- ==== Sys2Proof/Certificates/Slice0/Obligations.lean ====
section
/-!
DEFINITION. The statements about the model, each from the rules of spec/ its docstring names. They use the words of
Sys2Proof/Safety.lean: `Mapped`, `SameMemory`, `Stored`, `StoredWord`, `SameRegs`, `OnlyReg`, `OnlyPair`, `SameOutside`,
`FlagsAre`, `OperandIs`, `OperandWritten`, `AluForm`, `CondHolds`.

The spec marks some of its own passages as derived, as a decision (D1 to D21 of 92_eei_decisions.md) or as general
knowledge. A statement that rests on such a passage has basis 'derived' in OBLIGATIONS.json, and its docstring names the
decision; what the spec marks as general knowledge (opcode values, the flag rules of DAA, CPL, SCF, CCF and ADD SP,e, the
codes of the PPU's modes, the renderer's constants) stands in log entry 10.
-/

open Sys2Proof Sys2Proof.Machine

/-! ### Encoding -/

/-- R91, R92, R94, R102. Decoding what `encode` writes gives the instruction back, whatever bytes follow, for every
well-formed instruction, every operand and either value of STOP_LEN. The opcode values are general knowledge (log entry
10). -/
def Obligations.EncodeThenDecode : Prop :=
  ∀ (len : StopLength) (i : Instr) (rest : List Byte), i.wf len = true →
    decode len (encode i ++ rest) = .ok (i, rest)

/-- R92, R104, R110. What decodes is a well-formed instruction, the bytes it took are its encoding, and the rest is what
follows them. STOP takes STOP_LEN bytes, a parameter (R9, R282, decision D4), and a second one may have any value; that
the decoder asks for it to be there, where the fetch does not read it, is the model's choice (log entry 5). -/
def Obligations.DecodeThenEncode : Prop :=
  ∀ (len : StopLength) (bytes rest : List Byte) (i : Instr), decode len bytes = .ok (i, rest) →
    i.wf len = true ∧ rest = bytes.drop (encode i).length ∧
      (if bytes.head? = some 0x10 then i = .stopOf len ∧ len.toNat ≤ bytes.length else encode i ++ rest = bytes)

/-- Words the spec writes out decode to the instructions it says they are (R94, R95, R100, R102, R122, R129, R153, R254,
R256, R282, R285); all but STOP, whatever STOP_LEN is. -/
def Obligations.SpecWordsDecode : Prop :=
  (∀ len : StopLength,
    decode len [0x3E, 0x42] = .ok (.ld_a_n 0x42, []) ∧
    decode len [0x28, 0x05] = .ok (.jr_z_e 0x05, []) ∧
    decode len [0xCB, 0x7F] = .ok (.bit_7_a, []) ∧
    decode len [0xCB, 0xFE] = .ok (.set_7_atHL, []) ∧
    decode len [0xCB, 0x3E] = .ok (.srl_atHL, []) ∧
    decode len [0x76] = .ok (.halt, []) ∧
    decode len [0x77] = .ok (.ld_atHL_a, []) ∧
    decode len [0xFA, 0x34, 0xC2] = .ok (.ld_a_atNn 0xC234, []) ∧
    decode len [0x08, 0x00, 0xC1] = .ok (.ld_atNn_sp 0xC100, []) ∧
    decode len [0xCD, 0x00, 0x02] = .ok (.call_nn 0x0200, []) ∧
    decode len [0xEF] = .ok (.rst_28, []) ∧
    decode len [0xC5] = .ok (.push_bc, []) ∧
    decode len [0xF1] = .ok (.pop_af, []) ∧
    decode len [0x9C] = .ok (.sbc_a_h, []) ∧
    decode len [0x09] = .ok (.add_hl_bc, []) ∧
    decode len [0xF8, 0x08] = .ok (.ld_hl_spPlusE 0x08, []) ∧
    decode len [0xDD] = .ok (.illegal 0xDD, [])) ∧
  decode .two [0x10, 0x00] = .ok (.stop, []) ∧
  decode .one [0x10, 0x00] = .ok (.stopOneByte, [0x00])

/-- R285 (and R105): the eleven unassigned bytes, and no others, decode to ILLEGAL, whatever follows them; ILLEGAL raises
`IllegalOpcode` with its byte, and a step that fetches one ends the run there: no state is written, so pc still holds
the address of the byte, and neither the tick nor the tap has run (decision D7; which eleven bytes is general
knowledge). -/
def Obligations.IllegalOpcodesFault : Prop :=
  (∀ (len : StopLength) (op b1 b2 : Byte), decodeBytes len op b1 b2 = .illegal op ↔
    op ∈ [0xD3, 0xDB, 0xDD, 0xE3, 0xE4, 0xEB, 0xEC, 0xED, 0xF4, 0xFC, 0xFD]) ∧
  (∀ (op : Byte) (s : State), exec (.illegal op) s = .fault (.illegalOpcode op s)) ∧
  ∀ (cfg : Config) (op : Byte) (s : State),
    op ∈ [0xD3, 0xDB, 0xDD, 0xE3, 0xE4, 0xEB, 0xEC, 0xED, 0xF4, 0xFC, 0xFD] →
    s.stopped = false → Mapped s.pc → s.peek s.pc = op →
    stepWith cfg s = .fault (.illegalOpcode op s)

/-! ### The step -/

/-- R351, R354: when the bytes at pc decode to `i` and the ones it is fetched with can be read, a step is `exec i`,
followed on a next state by the tick of the instruction's cost and the serial tap; a fault ends the run with neither. The
instruction itself moves pc (R13). `step` is `stepWith` at the parameters' defaults. -/
def Obligations.StepRunsDecodedInstruction : Prop :=
  (∀ (cfg : Config) (s : State) (i : Instr) (rest : List Byte), s.stopped = false →
    decode cfg.stopLength [s.peek s.pc, s.peek (s.pc + 1), s.peek (s.pc + 2)] = .ok (i, rest) →
    (∀ k < fetchLength (s.peek s.pc), Mapped (s.pc + BitVec.ofNat 16 k)) →
    stepWith cfg s =
      match exec i s with
      | .next t => .next ((t.tick (cost cfg i)).serialTap cfg)
      | .fault r => .fault r
      | .refused r => .refused r) ∧
  ∀ s, step s = stepWith standardConfig s

/-- R93, R378: the fetch reads an instruction's bytes in ascending order, the first unmapped one is the fault, and nothing
has been written when it is raised; STOP is fetched with one byte whatever STOP_LEN is, every other instruction with all
of its bytes (decision D12). -/
def Obligations.FetchFaultsAtFirstUnmappedByte : Prop :=
  (∀ (len : StopLength) (op : Byte), fetchLength op = if op = 0x10 then 1 else instrLength len op) ∧
  ∀ (cfg : Config) (s : State), s.stopped = false →
    (¬Mapped s.pc → stepWith cfg s = .fault (.unmappedAddress s.pc s)) ∧
    (Mapped s.pc → 2 ≤ fetchLength (s.peek s.pc) → ¬Mapped (s.pc + 1) →
      stepWith cfg s = .fault (.unmappedAddress (s.pc + 1) s)) ∧
    (Mapped s.pc → Mapped (s.pc + 1) → 3 ≤ fetchLength (s.peek s.pc) → ¬Mapped (s.pc + 2) →
      stepWith cfg s = .fault (.unmappedAddress (s.pc + 2) s))

/-- R31, R281, R282, R352: STOP sets `stopped` and HALT sets `halted`, and nothing else writes either, so neither is ever
cleared (decision D6). That a step of a stopped machine answers the same state is the model's choice (log entry 6). -/
def Obligations.RunControl : Prop :=
  (∀ (i : Instr) (s t : State), exec i s = .next t →
    t.stopped = (s.stopped || decide (i = .stop ∨ i = .stopOneByte)) ∧
      t.halted = (s.halted || decide (i = .halt))) ∧
  (∀ (cfg : Config) (i : Instr) (s : State),
    (s.afterExecute cfg i).stopped = s.stopped ∧ (s.afterExecute cfg i).halted = s.halted) ∧
  ∀ (cfg : Config) (s : State), s.stopped = true → stepWith cfg s = .next s

/-- R31, R281, R356: `halted` is read by nothing: whatever it holds, a step answers the same next state or the same fault,
with the same address or byte and the same state, but for `halted` itself, which a step sets (`h`) or keeps. -/
def Obligations.HaltedIsReadByNothing : Prop :=
  ∀ (cfg : Config) (s : State),
    (∀ t, stepWith cfg s = .next t →
      ∃ h : Bool, ∀ x, stepWith cfg { s with halted := x } = .next { t with halted := x || h }) ∧
    (∀ a u x, stepWith cfg s = .fault (.unmappedAddress a u) →
      stepWith cfg { s with halted := x } = .fault (.unmappedAddress a { u with halted := x })) ∧
    ∀ op u x, stepWith cfg s = .fault (.illegalOpcode op u) →
      stepWith cfg { s with halted := x } = .fault (.illegalOpcode op { u with halted := x })

/-! ### The bus -/

/-- R60, R61, R62: the address resolves by its range; a read answers the byte of the backing address, a write replaces
it unless it is ROM and changes nothing else, and either faults on the unmapped range with the address and with nothing
written. -/
def Obligations.BusReadAndWrite : Prop :=
  (∀ a : Word,
    (0xE000 ≤ a.toNat → a.toNat ≤ 0xFDFF → resolve a = some (a.toNat - 0x2000)) ∧
    (0xFEA0 ≤ a.toNat → a.toNat ≤ 0xFEFF → resolve a = none) ∧
    (a.toNat < 0xE000 ∨ (0xFE00 ≤ a.toNat ∧ a.toNat ≤ 0xFE9F) ∨ 0xFF00 ≤ a.toNat → resolve a = some a.toNat)) ∧
  ∀ (s : State) (a : Word) (v : Byte),
    (resolve a = none →
      s.readByte a = .error (.unmappedAddress a s) ∧ s.writeByte a v = .error (.unmappedAddress a s)) ∧
    ∀ p, resolve a = some p →
      s.readByte a = .ok (s.mem.get p) ∧
      ∃ t, s.writeByte a v = .ok t ∧ t = { s with mem := t.mem } ∧
        ∀ q, t.mem.get q = if q = p ∧ 0x7FFF < p then v else s.mem.get q

/-- R54, R55: an access to the echo region is the access to work RAM 0x2000 below, for reads and writes alike, and a byte
written through either is read back through both. -/
def Obligations.EchoIsWorkRam : Prop :=
  ∀ (s : State) (a : Word) (v : Byte), 0xE000 ≤ a.toNat → a.toNat ≤ 0xFDFF →
    s.readByte a = s.readByte (a - 0x2000) ∧ s.writeByte a v = s.writeByte (a - 0x2000) v ∧
      ∃ t, s.writeByte a v = .ok t ∧ t.readByte a = .ok v ∧ t.readByte (a - 0x2000) = .ok v

/-- R63, R64: a word is two byte accesses, the low byte first and at the lower address, the second address wrapping; the
first of the two that is unmapped is the fault, and a low byte written before it stays written (decision D12). -/
def Obligations.WordAccess : Prop :=
  ∀ (s : State) (a w : Word),
    (Mapped a → Mapped (a + 1) →
      (∃ v, s.readWord a = .ok v ∧ v.toNat = 256 * (s.peek (a + 1)).toNat + (s.peek a).toNat) ∧
      ∃ t, s.writeWord a w = .ok t ∧ t = { s with mem := t.mem } ∧ StoredWord s t a w) ∧
    (¬Mapped a → s.readWord a = .error (.unmappedAddress a s) ∧ s.writeWord a w = .error (.unmappedAddress a s)) ∧
    (Mapped a → ¬Mapped (a + 1) →
      s.readWord a = .error (.unmappedAddress (a + 1) s) ∧
      ∃ u, s.writeWord a w = .error (.unmappedAddress (a + 1) u) ∧ u = { s with mem := u.mem } ∧
        Stored s u a (loByte w))

/-- R53: a write to ROM raises no fault and changes nothing, and no run of any length, with any parameters, changes what
a ROM address reads as (decision D9). -/
def Obligations.RomNeverChanges : Prop :=
  (∀ (s : State) (a : Word) (v : Byte), a.toNat ≤ 0x7FFF → s.writeByte a v = .ok s) ∧
  ∀ (cfg : Config) (s t : State), Reaches cfg s t → ∀ a : Word, a.toNat ≤ 0x7FFF → t.readByte a = .ok (s.peek a)

/-! ### Registers, pairs, flags, the stack -/

/-- R23, R27: the pairs are views: a pair reads as its high register times 256 plus its low one, a write splits the word
back, reads back as written (AF with the low nibble of F cleared) and changes nothing else. -/
def Obligations.PairsAreViews : Prop :=
  ∀ (s : State) (w : Word),
    (s.bc.toNat = 256 * s.b.toNat + s.c.toNat ∧ s.de.toNat = 256 * s.d.toNat + s.e.toNat ∧
      s.hl.toNat = 256 * s.h.toNat + s.l.toNat ∧ s.af.toNat = 256 * s.a.toNat + s.f.toNat) ∧
    (∃ x y : Byte, x.toNat = w.toNat / 256 ∧ y.toNat = w.toNat % 256 ∧
      s.setBC w = { s with b := x, c := y } ∧ s.setDE w = { s with d := x, e := y } ∧
      s.setHL w = { s with h := x, l := y } ∧ s.setAF w = { s with a := x, f := y &&& 0xF0 }) ∧
    (s.setBC w).bc = w ∧ (s.setDE w).de = w ∧ (s.setHL w).hl = w ∧ (s.setAF w).af = w &&& 0xFFF0

/-- R28: an instruction that leaves another value in F is one of the writers the spec lists: 8-bit arithmetic and logic,
ADD HL,rr, ADD SP,e, LD HL,SP+e, POP AF, a rotate, a shift, SWAP or BIT. -/
def Obligations.FlagWriters : Prop :=
  ∀ (i : Instr) (s t : State), exec i s = .next t → t.f ≠ s.f →
    (∃ o x, i = .alu o x) ∨ (∃ o n, i = .aluImm o n) ∨ (∃ x, i = .inc8 x) ∨ (∃ x, i = .dec8 x) ∨
    i = .daa ∨ i = .cpl ∨ i = .scf ∨ i = .ccf ∨ (∃ p, i = .addHLPair p) ∨ (∃ e, i = .add_sp_e e) ∨
    (∃ e, i = .ld_hl_spPlusE e) ∨ i = .pop_af ∨ i = .rlca ∨ i = .rrca ∨ i = .rla ∨ i = .rra ∨
    (∃ o x, i = .shift o x) ∨ ∃ k x, i = .bit8 k x

/-- R150: a push stores the high byte at SP - 1 and the low byte at SP - 2, SP decremented before each; SP wraps. The two
faulting clauses rest on R354: a push that faults has moved SP, and stored the high byte, as far as it came (decision
D20). -/
def Obligations.PushesHighByteThenLowByte : Prop :=
  ∀ (s : State) (w : Word),
    (Mapped (s.sp - 1) → Mapped (s.sp - 2) →
      ∃ t, s.push16 w = .ok t ∧ t = { s with sp := s.sp - 2, mem := t.mem } ∧ StoredWord s t (s.sp - 2) w) ∧
    (¬Mapped (s.sp - 1) → s.push16 w = .error (.unmappedAddress (s.sp - 1) { s with sp := s.sp - 1 })) ∧
    (Mapped (s.sp - 1) → ¬Mapped (s.sp - 2) →
      ∃ u, s.push16 w = .error (.unmappedAddress (s.sp - 2) u) ∧
        u = { s with sp := s.sp - 2, mem := u.mem } ∧ Stored s u (s.sp - 1) (hiByte w))

/-- R151: a pop reads the low byte at SP and the high byte at SP + 1, SP incremented after each; SP wraps. The two faulting
clauses rest on R354 and R373: the first byte is read before SP moves, and SP has moved past it when the second is
(decision D20). -/
def Obligations.PopsLowByteThenHighByte : Prop :=
  ∀ s : State,
    (Mapped s.sp → Mapped (s.sp + 1) →
      ∃ w, s.pop16 = .ok (w, { s with sp := s.sp + 2 }) ∧
        w.toNat = 256 * (s.peek (s.sp + 1)).toNat + (s.peek s.sp).toNat) ∧
    (¬Mapped s.sp → s.pop16 = .error (.unmappedAddress s.sp s)) ∧
    (Mapped s.sp → ¬Mapped (s.sp + 1) →
      s.pop16 = .error (.unmappedAddress (s.sp + 1) { s with sp := s.sp + 1 }))

/-- R158, R159: what a PUSH left on a stack outside ROM, the next POP of any pair puts into that pair, SP as before the
push; into AF, the low nibble of F is cleared. -/
def Obligations.PopRestoresWhatPushSaved : Prop :=
  ∀ (p q : StackPair) (s : State), Mapped (s.sp - 1) → Mapped (s.sp - 2) →
    0x7FFF < (s.sp - 1).toNat → 0x7FFF < (s.sp - 2).toNat →
    ∃ t u, exec (.push p) s = .next t ∧ exec (.pop q) t = .next u ∧ u.sp = s.sp ∧
      u.stackPair q = (match q with
        | .af => s.stackPair p &&& 0xFFF0
        | _ => s.stackPair p)

/-! ### 8-bit loads (40_load8.md) -/

/-- R120: LD d,s. -/
def Obligations.LoadRegisterFromRegister : Prop :=
  ∀ (dst src : Reg8) (s : State), ∃ t, exec (.ldRegReg dst src) s = .next t ∧ OnlyReg s t dst (s.reg src) ∧
    t.f = s.f ∧ t.sp = s.sp ∧ t.pc = s.pc + 1 ∧ SameMemory s t ∧ SameOutside s t

/-- R121, R122: LD d,(HL) and LD (HL),s, HL read before the register is written. -/
def Obligations.LoadAndStoreThroughHL : Prop :=
  ∀ (r : Reg8) (s : State), Mapped s.hl →
    (∃ t, exec (.ldRegHL r) s = .next t ∧ OnlyReg s t r (s.peek s.hl) ∧ t.f = s.f ∧ t.sp = s.sp ∧
      t.pc = s.pc + 1 ∧ SameMemory s t ∧ SameOutside s t) ∧
    ∃ t, exec (.ldHLReg r) s = .next t ∧ SameRegs s t ∧ t.f = s.f ∧ t.sp = s.sp ∧ t.pc = s.pc + 1 ∧
      Stored s t s.hl (s.reg r) ∧ SameOutside s t

/-- R123, R124: LD d,n and LD (HL),n. -/
def Obligations.LoadImmediate : Prop :=
  ∀ (x : Operand8) (n : Byte) (s : State), (x = .atHL → Mapped s.hl) →
    ∃ t, exec (.ldImm x n) s = .next t ∧ OperandWritten s t x n ∧ t.f = s.f ∧ t.sp = s.sp ∧
      t.pc = s.pc + 2 ∧ SameOutside s t

/-- R125, R126, R129, R131, R133, R136, R138: the loads of A from memory, by addressing mode; LDH A,(n) and
LD A,(C) cannot fault (R371). -/
def Obligations.LoadAccumulator : Prop :=
  ∀ (m : AccAddr) (s : State) (addr hl len : Word),
    (addr, hl, len) = (match m with
      | .bc => (s.bc, s.hl, 1)
      | .de => (s.de, s.hl, 1)
      | .imm nn => (nn, s.hl, 3)
      | .high n => (0xFF00 + n.setWidth 16, s.hl, 2)
      | .highC => (0xFF00 + s.c.setWidth 16, s.hl, 1)
      | .hlInc => (s.hl, s.hl + 1, 1)
      | .hlDec => (s.hl, s.hl - 1, 1)) →
    Mapped addr ∨ (∃ n, m = .high n) ∨ m = .highC →
    ∃ t, exec (.ldAccFrom m) s = .next t ∧ t.a = s.peek addr ∧ t.b = s.b ∧ t.c = s.c ∧ t.d = s.d ∧ t.e = s.e ∧
      t.hl = hl ∧ t.f = s.f ∧ t.sp = s.sp ∧ t.pc = s.pc + len ∧ SameMemory s t ∧ SameOutside s t

/-- R127, R128, R130, R132, R134, R135, R137: the stores of A to memory, by addressing mode; the store is made at the
address before HL moves; LDH (n),A and LD (C),A cannot fault (R371). -/
def Obligations.StoreAccumulator : Prop :=
  ∀ (m : AccAddr) (s : State) (addr hl len : Word),
    (addr, hl, len) = (match m with
      | .bc => (s.bc, s.hl, 1)
      | .de => (s.de, s.hl, 1)
      | .imm nn => (nn, s.hl, 3)
      | .high n => (0xFF00 + n.setWidth 16, s.hl, 2)
      | .highC => (0xFF00 + s.c.setWidth 16, s.hl, 1)
      | .hlInc => (s.hl, s.hl + 1, 1)
      | .hlDec => (s.hl, s.hl - 1, 1)) →
    Mapped addr ∨ (∃ n, m = .high n) ∨ m = .highC →
    ∃ t, exec (.ldAccTo m) s = .next t ∧ Stored s t addr s.a ∧ t.a = s.a ∧ t.b = s.b ∧ t.c = s.c ∧ t.d = s.d ∧
      t.e = s.e ∧ t.hl = hl ∧ t.f = s.f ∧ t.sp = s.sp ∧ t.pc = s.pc + len ∧ SameOutside s t

/-! ### 16-bit loads and the stack (41_load16_stack.md) -/

/-- R152, R154: LD rr,nn and LD SP,HL. -/
def Obligations.LoadPair : Prop :=
  (∀ (p : Pair) (nn : Word) (s : State), ∃ t, exec (.ldPairImm p nn) s = .next t ∧ OnlyPair s t p nn ∧
    t.f = s.f ∧ t.pc = s.pc + 3 ∧ SameMemory s t ∧ SameOutside s t) ∧
  ∀ s : State, ∃ t, exec .ld_sp_hl s = .next t ∧ OnlyPair s t .sp s.hl ∧ t.f = s.f ∧ t.pc = s.pc + 1 ∧
    SameMemory s t ∧ SameOutside s t

/-- R153: LD (nn),SP. -/
def Obligations.StoreStackPointer : Prop :=
  ∀ (nn : Word) (s : State), Mapped nn → Mapped (nn + 1) →
    ∃ t, exec (.ld_atNn_sp nn) s = .next t ∧ StoredWord s t nn s.sp ∧ SameRegs s t ∧ t.f = s.f ∧ t.sp = s.sp ∧
      t.pc = s.pc + 3 ∧ SameOutside s t

/-- R155, R213: LD HL,SP+e and ADD SP,e: the sum with the signed displacement modulo 65536, Z and N clear, H and C the
carries of adding the unsigned byte to the low byte of SP. -/
def Obligations.StackPointerPlusDisplacement : Prop :=
  ∀ (e : Byte) (s : State), ∃ (w : Word) (t u : State),
    (w.toNat : Int) = (s.sp.toNat + e.toInt) % 65536 ∧
    exec (.ld_hl_spPlusE e) s = .next t ∧ OnlyPair s t .hl w ∧ exec (.add_sp_e e) s = .next u ∧ OnlyPair s u .sp w ∧
    ∀ x, x = t ∨ x = u →
      FlagsAre x false false (15 < s.sp.toNat % 16 + e.toNat % 16) (255 < s.sp.toNat % 256 + e.toNat) ∧
      x.pc = s.pc + 2 ∧ SameMemory s x ∧ SameOutside s x

/-- R156, R157: PUSH. -/
def Obligations.PushPair : Prop :=
  ∀ (q : StackPair) (s : State), Mapped (s.sp - 1) → Mapped (s.sp - 2) →
    ∃ t, exec (.push q) s = .next t ∧
      StoredWord s t (s.sp - 2) (match q with
        | .bc => joinBytes s.b s.c
        | .de => joinBytes s.d s.e
        | .hl => joinBytes s.h s.l
        | .af => joinBytes s.a s.f) ∧
      SameRegs s t ∧ t.f = s.f ∧ t.sp = s.sp - 2 ∧ t.pc = s.pc + 1 ∧ SameOutside s t

/-- R158, R159: POP. -/
def Obligations.PopPair : Prop :=
  ∀ (q : StackPair) (s : State), Mapped s.sp → Mapped (s.sp + 1) →
    ∃ t, exec (.pop q) s = .next t ∧ t.sp = s.sp + 2 ∧ t.pc = s.pc + 1 ∧ SameMemory s t ∧ SameOutside s t ∧
      (match q with
        | .bc => t.f = s.f ∧
            ∀ r, t.reg r = if r = .b then s.peek (s.sp + 1) else if r = .c then s.peek s.sp else s.reg r
        | .de => t.f = s.f ∧
            ∀ r, t.reg r = if r = .d then s.peek (s.sp + 1) else if r = .e then s.peek s.sp else s.reg r
        | .hl => t.f = s.f ∧
            ∀ r, t.reg r = if r = .h then s.peek (s.sp + 1) else if r = .l then s.peek s.sp else s.reg r
        | .af => t.f = s.peek s.sp &&& 0xF0 ∧ OnlyReg s t .a (s.peek (s.sp + 1)))

/-! ### 8-bit arithmetic and logic (42_alu8.md) -/

/-- R170 (and the operations of R172, R173, R180, R181): ADD and ADC in every operand form. -/
def Obligations.AddAndAdc : Prop :=
  ∀ (s : State) (o : AluOp) (i : Instr) (v : Byte) (len : Word) (cin : Nat),
    (o = .add ∧ cin = 0) ∨ (o = .adc ∧ cin = s.flagC.toNat) → AluForm s o i v len →
    ∃ t, exec i s = .next t ∧ t.a.toNat = (s.a.toNat + v.toNat + cin) % 256 ∧ OnlyReg s t .a t.a ∧
      FlagsAre t (t.a.toNat = 0) false (15 < s.a.toNat % 16 + v.toNat % 16 + cin) (255 < s.a.toNat + v.toNat + cin) ∧
      t.sp = s.sp ∧ t.pc = s.pc + len ∧ SameMemory s t ∧ SameOutside s t

/-- R171 (and the operations of R174, R175, R179, R182, R183, R187): SUB, SBC and CP in every operand form; CP leaves A
alone. -/
def Obligations.SubSbcAndCp : Prop :=
  ∀ (s : State) (o : AluOp) (i : Instr) (v : Byte) (len : Word) (cin : Nat),
    (o = .sub ∧ cin = 0) ∨ (o = .sbc ∧ cin = s.flagC.toNat) ∨ (o = .cp ∧ cin = 0) → AluForm s o i v len →
    ∃ (t : State) (r : Byte), exec i s = .next t ∧
      (r.toNat : Int) = ((s.a.toNat : Int) - v.toNat - cin) % 256 ∧
      OnlyReg s t .a (if o = .cp then s.a else r) ∧
      FlagsAre t (r.toNat = 0) true (s.a.toNat % 16 < v.toNat % 16 + cin) (s.a.toNat < v.toNat + cin) ∧
      t.sp = s.sp ∧ t.pc = s.pc + len ∧ SameMemory s t ∧ SameOutside s t

/-- R176 to R178, R184 to R186: AND, XOR and OR in every operand form. -/
def Obligations.AndXorOr : Prop :=
  ∀ (s : State) (o : AluOp) (i : Instr) (v r : Byte) (len : Word),
    (o = .and ∧ r = s.a &&& v) ∨ (o = .xor ∧ r = s.a ^^^ v) ∨ (o = .or ∧ r = s.a ||| v) → AluForm s o i v len →
    ∃ t, exec i s = .next t ∧ OnlyReg s t .a r ∧ FlagsAre t (r.toNat = 0) false (o = .and) false ∧
      t.sp = s.sp ∧ t.pc = s.pc + len ∧ SameMemory s t ∧ SameOutside s t

/-- R188 to R191: INC and DEC of a register or of (HL); C is kept; the flags come from the computed value even where the
store goes to ROM and is dropped. -/
def Obligations.IncAndDec : Prop :=
  ∀ (s : State) (x : Operand8) (v : Byte), OperandIs s x v →
    (∃ (t : State) (r : Byte), exec (.inc8 x) s = .next t ∧ r.toNat = (v.toNat + 1) % 256 ∧ OperandWritten s t x r ∧
      FlagsAre t (r.toNat = 0) false (v.toNat % 16 = 15) s.flagC ∧
      t.sp = s.sp ∧ t.pc = s.pc + 1 ∧ SameOutside s t) ∧
    ∃ (t : State) (r : Byte), exec (.dec8 x) s = .next t ∧ r.toNat = (v.toNat + 255) % 256 ∧ OperandWritten s t x r ∧
      FlagsAre t (r.toNat = 0) true (v.toNat % 16 = 0) s.flagC ∧
      t.sp = s.sp ∧ t.pc = s.pc + 1 ∧ SameOutside s t

/-- R192: DAA. -/
def Obligations.DecimalAdjust : Prop :=
  ∀ (s : State) (six sixty : Bool),
    six = (s.flagH || (!s.flagN && decide (9 < s.a.toNat % 16))) →
    sixty = (s.flagC || (!s.flagN && decide (0x99 < s.a.toNat))) →
    ∃ t, exec .daa s = .next t ∧
      t.a.toNat = (if s.flagN then s.a.toNat + 256 - (6 * six.toNat + 0x60 * sixty.toNat)
        else s.a.toNat + (6 * six.toNat + 0x60 * sixty.toNat)) % 256 ∧
      OnlyReg s t .a t.a ∧ FlagsAre t (t.a.toNat = 0) s.flagN false sixty ∧
      t.sp = s.sp ∧ t.pc = s.pc + 1 ∧ SameMemory s t ∧ SameOutside s t

/-- What R192 is for: after ADD A,n or SUB n on two numbers of two decimal digits each, DAA leaves the decimal digits of
their sum or difference modulo 100 in A, and the decimal carry or borrow in C. -/
def Obligations.DecimalAdjustCorrectsBcd : Prop :=
  ∀ (s : State) (x y : Nat) (n : Byte), x < 100 → y < 100 →
    s.a.toNat = 16 * (x / 10) + x % 10 → n.toNat = 16 * (y / 10) + y % 10 →
    (∃ t u, exec (.add_a_n n) s = .next t ∧ exec .daa t = .next u ∧
      u.a.toNat = 16 * ((x + y) % 100 / 10) + (x + y) % 10 ∧ u.flagC = decide (99 < x + y)) ∧
    ∃ t u, exec (.sub_n n) s = .next t ∧ exec .daa t = .next u ∧
      u.a.toNat = 16 * ((x + 100 - y) % 100 / 10) + (x + 100 - y) % 10 ∧ u.flagC = decide (x < y)

/-- R193 to R195: CPL, SCF and CCF. -/
def Obligations.CplScfCcf : Prop :=
  ∀ s : State,
    (∃ t, exec .cpl s = .next t ∧ t.a.toNat = 255 - s.a.toNat ∧ OnlyReg s t .a t.a ∧
      FlagsAre t s.flagZ true true s.flagC ∧ t.sp = s.sp ∧ t.pc = s.pc + 1 ∧ SameMemory s t ∧ SameOutside s t) ∧
    (∃ t, exec .scf s = .next t ∧ SameRegs s t ∧ FlagsAre t s.flagZ false false true ∧
      t.sp = s.sp ∧ t.pc = s.pc + 1 ∧ SameMemory s t ∧ SameOutside s t) ∧
    ∃ t, exec .ccf s = .next t ∧ SameRegs s t ∧ FlagsAre t s.flagZ false false (!s.flagC) ∧
      t.sp = s.sp ∧ t.pc = s.pc + 1 ∧ SameMemory s t ∧ SameOutside s t

/-! ### 16-bit arithmetic (43_alu16.md) -/

/-- R210, R211: INC rr and DEC rr, no flag written. -/
def Obligations.IncAndDecPair : Prop :=
  ∀ (p : Pair) (s : State),
    (∃ t, exec (.incPair p) s = .next t ∧ OnlyPair s t p (s.pair p + 1) ∧ t.f = s.f ∧ t.pc = s.pc + 1 ∧
      SameMemory s t ∧ SameOutside s t) ∧
    ∃ t, exec (.decPair p) s = .next t ∧ OnlyPair s t p (s.pair p - 1) ∧ t.f = s.f ∧ t.pc = s.pc + 1 ∧
      SameMemory s t ∧ SameOutside s t

/-- R212: ADD HL,rr, Z kept, H and C the carries out of bits 11 and 15. -/
def Obligations.AddToHL : Prop :=
  ∀ (p : Pair) (s : State), ∃ (t : State) (w : Word), exec (.addHLPair p) s = .next t ∧
    w.toNat = (s.hl.toNat + (s.pair p).toNat) % 65536 ∧ OnlyPair s t .hl w ∧
    FlagsAre t s.flagZ false (4095 < s.hl.toNat % 4096 + (s.pair p).toNat % 4096)
      (65535 < s.hl.toNat + (s.pair p).toNat) ∧
    t.pc = s.pc + 1 ∧ SameMemory s t ∧ SameOutside s t

/-! ### Rotates, shifts and bits (44_rotate_shift_bit.md) -/

/-- R220 to R223: the accumulator rotates, Z clear whatever the result. -/
def Obligations.AccumulatorRotates : Prop :=
  ∀ (s : State) (i : Instr) (r : Nat) (out : Bool),
    (i = .rlca ∧ r = 2 * s.a.toNat % 256 + s.a.toNat / 128 ∧ out = decide (128 ≤ s.a.toNat)) ∨
    (i = .rrca ∧ r = s.a.toNat / 2 + 128 * (s.a.toNat % 2) ∧ out = decide (s.a.toNat % 2 = 1)) ∨
    (i = .rla ∧ r = 2 * s.a.toNat % 256 + s.flagC.toNat ∧ out = decide (128 ≤ s.a.toNat)) ∨
    (i = .rra ∧ r = s.a.toNat / 2 + 128 * s.flagC.toNat ∧ out = decide (s.a.toNat % 2 = 1)) →
    ∃ t, exec i s = .next t ∧ t.a.toNat = r ∧ OnlyReg s t .a t.a ∧ FlagsAre t false false false out ∧
      t.sp = s.sp ∧ t.pc = s.pc + 1 ∧ SameMemory s t ∧ SameOutside s t

/-- R225 to R232: the rotates and shifts of the CB table, on a register or on (HL). -/
def Obligations.RotatesAndShifts : Prop :=
  ∀ (s : State) (o : ShiftOp) (x : Operand8) (v : Byte) (r : Nat) (out : Bool), OperandIs s x v →
    (r, out) = (match o with
      | .rlc => (2 * v.toNat % 256 + v.toNat / 128, decide (128 ≤ v.toNat))
      | .rrc => (v.toNat / 2 + 128 * (v.toNat % 2), decide (v.toNat % 2 = 1))
      | .rl => (2 * v.toNat % 256 + s.flagC.toNat, decide (128 ≤ v.toNat))
      | .rr => (v.toNat / 2 + 128 * s.flagC.toNat, decide (v.toNat % 2 = 1))
      | .sla => (2 * v.toNat % 256, decide (128 ≤ v.toNat))
      | .sra => (v.toNat / 2 + 128 * (v.toNat / 128), decide (v.toNat % 2 = 1))
      | .swap => (16 * (v.toNat % 16) + v.toNat / 16, false)
      | .srl => (v.toNat / 2, decide (v.toNat % 2 = 1))) →
    ∃ (t : State) (w : Byte), exec (.shift o x) s = .next t ∧ w.toNat = r ∧ OperandWritten s t x w ∧
      FlagsAre t (r = 0) false false out ∧ t.sp = s.sp ∧ t.pc = s.pc + 2 ∧ SameOutside s t

/-- R233 to R235: BIT writes Z, N and H and nothing back; RES and SET write the one bit and no flag. -/
def Obligations.BitResAndSet : Prop :=
  ∀ (s : State) (k : Fin 8) (x : Operand8) (v : Byte), OperandIs s x v →
    (∃ t, exec (.bit8 k x) s = .next t ∧ SameRegs s t ∧ SameMemory s t ∧
      FlagsAre t (!v.getLsbD k) false true s.flagC ∧ t.sp = s.sp ∧ t.pc = s.pc + 2 ∧ SameOutside s t) ∧
    (∃ (t : State) (w : Byte), exec (.res8 k x) s = .next t ∧
      (∀ j < 8, w.getLsbD j = (v.getLsbD j && decide (j ≠ k.val))) ∧ OperandWritten s t x w ∧
      t.f = s.f ∧ t.sp = s.sp ∧ t.pc = s.pc + 2 ∧ SameOutside s t) ∧
    ∃ (t : State) (w : Byte), exec (.set8 k x) s = .next t ∧
      (∀ j < 8, w.getLsbD j = (v.getLsbD j || decide (j = k.val))) ∧ OperandWritten s t x w ∧
      t.f = s.f ∧ t.sp = s.sp ∧ t.pc = s.pc + 2 ∧ SameOutside s t

/-! ### Control transfer and system (45_control.md, 46_system.md) -/

/-- R250 to R255: JP, JP cc, JP (HL), JR and JR cc change pc and nothing else; the displacement is signed and counts from
the address after the instruction. -/
def Obligations.Jumps : Prop :=
  ∀ (s : State) (cc : Cond) (nn : Word) (e : Byte),
    exec (.jp_nn nn) s = .next { s with pc := nn } ∧
    (CondHolds s cc → exec (.jpCond cc nn) s = .next { s with pc := nn }) ∧
    (¬CondHolds s cc → exec (.jpCond cc nn) s = .next { s with pc := s.pc + 3 }) ∧
    exec .jp_atHL s = .next { s with pc := s.hl } ∧
    (∃ w : Word, (w.toNat : Int) = (s.pc.toNat + 2 + e.toInt) % 65536 ∧
      exec (.jr_e e) s = .next { s with pc := w } ∧
      (CondHolds s cc → exec (.jrCond cc e) s = .next { s with pc := w })) ∧
    (¬CondHolds s cc → exec (.jrCond cc e) s = .next { s with pc := s.pc + 2 })

/-- R256, R257, R261: CALL, CALL cc and RST push the address after the instruction and jump; a CALL cc whose condition is
false only moves pc. -/
def Obligations.Calls : Prop :=
  ∀ (s : State) (cc : Cond) (nn : Word) (k : Fin 8),
    (Mapped (s.sp - 1) → Mapped (s.sp - 2) →
      (∃ t, exec (.call_nn nn) s = .next t ∧ t = { s with pc := nn, sp := s.sp - 2, mem := t.mem } ∧
        StoredWord s t (s.sp - 2) (s.pc + 3)) ∧
      (CondHolds s cc → ∃ t, exec (.callCond cc nn) s = .next t ∧
        t = { s with pc := nn, sp := s.sp - 2, mem := t.mem } ∧ StoredWord s t (s.sp - 2) (s.pc + 3)) ∧
      ∃ t, exec (.rst k) s = .next t ∧
        t = { s with pc := BitVec.ofNat 16 (8 * k.val), sp := s.sp - 2, mem := t.mem } ∧
        StoredWord s t (s.sp - 2) (s.pc + 1)) ∧
    (¬CondHolds s cc → exec (.callCond cc nn) s = .next { s with pc := s.pc + 3 })

/-- R258, R259, R260: RET, RETI and RET cc pop pc; a RET cc whose condition is false only moves pc. -/
def Obligations.Returns : Prop :=
  ∀ (s : State) (cc : Cond),
    (Mapped s.sp → Mapped (s.sp + 1) →
      ∃ w : Word, w.toNat = 256 * (s.peek (s.sp + 1)).toNat + (s.peek s.sp).toNat ∧
        exec .ret s = .next { s with pc := w, sp := s.sp + 2 } ∧
        exec .reti s = .next { s with pc := w, sp := s.sp + 2 } ∧
        (CondHolds s cc → exec (.retCond cc) s = .next { s with pc := w, sp := s.sp + 2 })) ∧
    (¬CondHolds s cc → exec (.retCond cc) s = .next { s with pc := s.pc + 1 })

/-- R280 to R284: NOP, DI and EI only move pc; HALT and STOP also set their boolean; STOP moves pc over its
bytes, two or one as the parameter STOP_LEN selects (decision D4). -/
def Obligations.SystemInstructions : Prop :=
  ∀ s : State,
    exec .nop s = .next { s with pc := s.pc + 1 } ∧
    exec .di s = .next { s with pc := s.pc + 1 } ∧
    exec .ei s = .next { s with pc := s.pc + 1 } ∧
    exec .halt s = .next { s with pc := s.pc + 1, halted := true } ∧
    exec .stop s = .next { s with pc := s.pc + 2, stopped := true } ∧
    exec .stopOneByte s = .next { s with pc := s.pc + 1, stopped := true }

/-! ### Faults -/

/-- R354, R371, R373: the data access that an instruction makes first and that lies in the unmapped range is the fault,
with the state it is met in: for a stack store, SP has moved (decision D20). -/
def Obligations.DataAccessFaults : Prop :=
  ∀ s : State,
    (¬Mapped s.hl →
      ∀ i, (∃ r, i = .ldRegHL r) ∨ (∃ r, i = .ldHLReg r) ∨ (∃ n, i = .ldImm .atHL n) ∨ (∃ o, i = .alu o .atHL) ∨
          i = .inc8 .atHL ∨ i = .dec8 .atHL ∨ (∃ o, i = .shift o .atHL) ∨ (∃ k, i = .bit8 k .atHL) ∨
          (∃ k, i = .res8 k .atHL) ∨ (∃ k, i = .set8 k .atHL) ∨ (∃ m, (m = .hlInc ∨ m = .hlDec) ∧
            (i = .ldAccFrom m ∨ i = .ldAccTo m)) →
        exec i s = .fault (.unmappedAddress s.hl s)) ∧
    (∀ m a, (m = .bc ∧ a = s.bc) ∨ (m = .de ∧ a = s.de) ∨ m = .imm a → ¬Mapped a →
      exec (.ldAccFrom m) s = .fault (.unmappedAddress a s) ∧ exec (.ldAccTo m) s = .fault (.unmappedAddress a s)) ∧
    (∀ nn, ¬Mapped nn → exec (.ld_atNn_sp nn) s = .fault (.unmappedAddress nn s)) ∧
    (∀ nn, Mapped nn → ¬Mapped (nn + 1) → ∃ u, exec (.ld_atNn_sp nn) s = .fault (.unmappedAddress (nn + 1) u) ∧
      u = { s with mem := u.mem } ∧ Stored s u nn (loByte s.sp)) ∧
    (∀ i w, (∃ q, i = .push q ∧ w = s.stackPair q) ∨
        (∃ nn, i = .call_nn nn ∧ w = s.pc + 3) ∨
        (∃ cc nn, CondHolds s cc ∧ i = .callCond cc nn ∧ w = s.pc + 3) ∨ (∃ k, i = .rst k ∧ w = s.pc + 1) →
      (¬Mapped (s.sp - 1) → exec i s = .fault (.unmappedAddress (s.sp - 1) { s with sp := s.sp - 1 })) ∧
      (Mapped (s.sp - 1) → ¬Mapped (s.sp - 2) → ∃ u, exec i s = .fault (.unmappedAddress (s.sp - 2) u) ∧
        u = { s with sp := s.sp - 2, mem := u.mem } ∧ Stored s u (s.sp - 1) (hiByte w))) ∧
    ∀ i, (∃ q, i = .pop q) ∨ i = .ret ∨ i = .reti ∨ (∃ cc, CondHolds s cc ∧ i = .retCond cc) →
      (¬Mapped s.sp → exec i s = .fault (.unmappedAddress s.sp s)) ∧
      (Mapped s.sp → ¬Mapped (s.sp + 1) →
        exec i s = .fault (.unmappedAddress (s.sp + 1) { s with sp := s.sp + 1 }))

/-- R372, R373: no step is refused; a step that faults reports one of two faults: an unmapped address, in a state that
differs from the one before the step in SP and in memory outside ROM at most, so pc is the instruction's first byte and
no tick and no tap has run; or an unassigned opcode byte, in the very state before the step
(decisions D7 and D20). -/
def Obligations.FaultsArePrecise : Prop :=
  ∀ (cfg : Config) (s : State),
    (∀ r, stepWith cfg s ≠ .refused r) ∧
    (∀ a u, stepWith cfg s = .fault (.unmappedAddress a u) →
      ¬Mapped a ∧ u = { s with sp := u.sp, mem := u.mem } ∧ ∀ x : Word, x.toNat ≤ 0x7FFF → u.peek x = s.peek x) ∧
    ∀ op u, stepWith cfg s = .fault (.illegalOpcode op u) →
      u = s ∧ op = s.peek s.pc ∧ op ∈ [0xD3, 0xDB, 0xDD, 0xE3, 0xE4, 0xEB, 0xEC, 0xED, 0xF4, 0xFC, 0xFD]

/-! ### The PPU (47_ppu_modes.md, 48_renderer.md) -/

/-- R302: the tick adds the cost to the accumulator and, while the accumulator reaches the budget of the current mode,
takes the budget off and leaves the mode; it ends with the accumulator below the budget of the mode it ends in; a tick
of 0 changes nothing where it already is, and there a tick of at most 80 leaves at most one mode. The loop is the spec's
derivation from the two sentences it quotes. -/
def Obligations.TickLoop : Prop :=
  ∀ (s : State) (c : Nat),
    (budget .accessOAM = 80 ∧ budget .accessVRAM = 172 ∧ budget .hblank = 204 ∧ budget .vblank = 456) ∧
    (s.ppuAcc + c < budget s.ppuMode → s.tick c = { s with ppuAcc := s.ppuAcc + c }) ∧
    (budget s.ppuMode ≤ s.ppuAcc + c →
      s.tick c = (State.leaveMode { s with ppuAcc := s.ppuAcc + c - budget s.ppuMode }).tick 0) ∧
    (s.tick c).ppuAcc < budget (s.tick c).ppuMode ∧
    (s.ppuAcc < budget s.ppuMode → s.tick 0 = s) ∧
    (s.ppuAcc < budget s.ppuMode → c ≤ 80 → budget s.ppuMode ≤ s.ppuAcc + c →
      s.tick c = State.leaveMode { s with ppuAcc := s.ppuAcc + c - budget s.ppuMode })

/-- R311: from reset, after ticks of total cost `T`, however `T` is split: the line, the mode, the accumulator and the
number of frames emitted. The rule is the spec's derivation from R301 to R306. -/
def Obligations.TickPosition : Prop :=
  ∀ (m : Memory) (fb : Frame) (costs : List Nat) (s : State) (T r : Nat),
    s = costs.foldl State.tick (State.resetWith m fb) → T = costs.sum → r = T % 456 →
    s.ppuLine = T / 456 % 154 ∧ s.frames.length = T / 70224 ∧
    (s.ppuLine ≤ 143 → (s.ppuMode, s.ppuAcc) =
      if r < 80 then (.accessOAM, r) else if r < 252 then (.accessVRAM, r - 80) else (.hblank, r - 252)) ∧
    (144 ≤ s.ppuLine → (s.ppuMode, s.ppuAcc) = (.vblank, r))

/-- R311, R410: in a run of any program, a step moves the PPU's position by the cost of the instruction and by nothing
else, and keeps the line one its mode has; and two ticks are one tick of the sum. -/
def Obligations.StepMovesPpuByTheCost : Prop :=
  (∀ (cfg : Config) (s t : State) (i : Instr), s.LineInv → s.stopped = false →
    s.fetch cfg.stopLength = .ok i →
    stepWith cfg s = .next t → t.ppuPosition = s.ppuPosition + cost cfg i ∧ t.LineInv) ∧
  ∀ (s : State) (b c : Nat), (s.tick b).tick c = s.tick (b + c)

/-- R107, R411: the cost is the table entry of the opcode byte, or of the second byte after 0xCB; that of LD A,n is 2
whatever the parameters; at the default tables, which are the model's choice (log entry 3), no cost is outside 1 to 6
(decision D3). -/
def Obligations.Costs : Prop :=
  (∀ (cfg : Config) (i : Instr) (op : Byte) (rest : List Byte), i.wf cfg.stopLength = true → encode i = op :: rest →
    (op ≠ 0xCB → cost cfg i = cfg.cyclesMain op) ∧
    (op = 0xCB → ∃ op2, rest = [op2] ∧ cost cfg i = cfg.cyclesCB op2)) ∧
  (∀ (cfg : Config) (n : Byte), cost cfg (.ld_a_n n) = 2) ∧
  ∀ i : Instr, (∀ op, i ≠ .illegal op) → 1 ≤ cost standardConfig i ∧ cost standardConfig i ≤ 6

/-- R303, R307: `SetMode` writes the mode and the two low bits of STAT and nothing else; leaving AccessOAM is
`SetMode(AccessVRAM)`. The write of STAT is decision D13, and the codes are general knowledge. -/
def Obligations.SetModePublishesTheMode : Prop :=
  ∀ (s : State) (m : PpuMode),
    (∃ (t : State) (v : Byte), s.setMode m = t ∧ t = { s with ppuMode := m, mem := t.mem } ∧ Stored s t 0xFF41 v ∧
      v.toNat = 4 * ((s.peek 0xFF41).toNat / 4) + (match m with
        | .hblank => 0
        | .vblank => 1
        | .accessOAM => 2
        | .accessVRAM => 3)) ∧
    (s.ppuMode = .accessOAM → s.leaveMode = s.setMode .accessVRAM)

/-- R304: leaving AccessVRAM: mode HBlank in STAT bits 1:0, the coincidence of LY and LYC in bit 2, and IF bit 1 set by
the HBlank enable, or by the coincidence with its enable (decision D13). -/
def Obligations.LeavingAccessVRAM : Prop :=
  ∀ (s t : State) (eq : Bool), s.ppuMode = .accessVRAM → t = s.leaveMode →
    eq = decide (s.peek 0xFF44 = s.peek 0xFF45) →
    t = { s with ppuMode := .hblank, mem := t.mem } ∧
    (∀ j < 8, (t.peek 0xFF41).getLsbD j =
      if j < 2 then false else if j = 2 then eq else (s.peek 0xFF41).getLsbD j) ∧
    (∀ j < 8, (t.peek 0xFF0F).getLsbD j = ((s.peek 0xFF0F).getLsbD j ||
      (decide (j = 1) && ((s.peek 0xFF41).getLsbD 3 || (eq && (s.peek 0xFF41).getLsbD 6))))) ∧
    ∀ x : Word, x ≠ 0xFF41 → x ≠ 0xFF0F → t.peek x = s.peek x

/-- R305: leaving HBlank: the line that ends is rendered, the next line is published to LY, and at 144 the mode is VBlank
and IF bit 0 is set (the write of STAT is decision D13). -/
def Obligations.LeavingHBlank : Prop :=
  ∀ (s t : State), s.ppuMode = .hblank → t = s.leaveMode →
    t = { s with
      ppuLine := s.ppuLine + 1
      ppuMode := if s.ppuLine + 1 = 144 then .vblank else .accessOAM
      fb := (s.renderLine s.ppuLine).fb
      mem := t.mem } ∧
    t.peek 0xFF44 = BitVec.ofNat 8 (s.ppuLine + 1) ∧
    (t.peek 0xFF41).toNat = 4 * ((s.peek 0xFF41).toNat / 4) + (if s.ppuLine + 1 = 144 then 1 else 2) ∧
    (∀ j < 8, (t.peek 0xFF0F).getLsbD j =
      ((s.peek 0xFF0F).getLsbD j || decide (j = 0 ∧ s.ppuLine + 1 = 144))) ∧
    ∀ x : Word, x ≠ 0xFF44 → x ≠ 0xFF41 → x ≠ 0xFF0F → t.peek x = s.peek x

/-- R306: leaving a VBlank scanline: the next line is published to LY; at 154 the framebuffer is emitted, and the line and
LY are 0 and the mode AccessOAM (decision D13). -/
def Obligations.LeavingVBlank : Prop :=
  ∀ (s t : State), s.ppuMode = .vblank → t = s.leaveMode →
    t = { s with
      ppuLine := if s.ppuLine + 1 = 154 then 0 else s.ppuLine + 1
      ppuMode := if s.ppuLine + 1 = 154 then .accessOAM else .vblank
      frames := if s.ppuLine + 1 = 154 then s.frames ++ [s.fb] else s.frames
      mem := t.mem } ∧
    t.peek 0xFF44 = BitVec.ofNat 8 t.ppuLine ∧
    (t.peek 0xFF41).toNat =
      (if s.ppuLine + 1 = 154 then 4 * ((s.peek 0xFF41).toNat / 4) + 2 else (s.peek 0xFF41).toNat) ∧
    ∀ x : Word, x ≠ 0xFF44 → x ≠ 0xFF41 → t.peek x = s.peek x

/-- R330 to R336: rendering line `y` overwrites row `y` of the framebuffer and nothing else; each pixel is the window's
where the window is drawn, else the background's, by the map cell, the tile row and the two bitplanes
(decision D18; the addresses and bit numbers are general knowledge). -/
def Obligations.RenderedLine : Prop :=
  ∀ (s : State) (y : Nat) (hy : y < 144),
    s.renderLine y = { s with fb := (s.renderLine y).fb } ∧
    (∀ (y' : Nat) (hy' : y' < 144), y' ≠ y → (s.renderLine y).fb[y'] = s.fb[y']) ∧
    ∀ (x : Nat) (hx : x < 160),
      let rd := fun n : Nat => s.peek (BitVec.ofNat 16 n)
      let lcdc := rd 0xFF40
      let wy := (rd 0xFF4A).toNat
      let wx := (rd 0xFF4B).toNat
      let window := lcdc.getLsbD 5 && decide (wy ≤ y ∧ wx ≤ x + 7)
      let cx := if window then x + 7 - wx else (x + (rd 0xFF43).toNat) % 256
      let cy := if window then y - wy else (y + (rd 0xFF42).toNat) % 256
      let map := if (if window then lcdc.getLsbD 6 else lcdc.getLsbD 3) then 0x9C00 else 0x9800
      let idx := (rd (map + cy / 8 * 32 + cx / 8)).toNat
      let tile := if lcdc.getLsbD 4 then 0x8000 + 16 * idx
        else if idx < 128 then 0x9000 + 16 * idx else 0x9000 + 16 * idx - 16 * 256
      let lo := rd (tile + 2 * (cy % 8))
      let hi := rd (tile + 2 * (cy % 8) + 1)
      ((s.renderLine y).fb[y][x]).toNat =
        2 * (hi.getLsbD (7 - cx % 8)).toNat + (lo.getLsbD (7 - cx % 8)).toNat

/-- R65, R310, R353: a tick leaves the processor and the text alone, writes no byte but IF, STAT and LY, and clears no
bit of IF nor writes any but bits 0 and 1. -/
def Obligations.TickWritesOnlyItsRegisters : Prop :=
  ∀ (s : State) (c : Nat),
    SameRegs s (s.tick c) ∧ (s.tick c).f = s.f ∧ (s.tick c).sp = s.sp ∧ (s.tick c).pc = s.pc ∧
    (s.tick c).stopped = s.stopped ∧ (s.tick c).halted = s.halted ∧ (s.tick c).text = s.text ∧
    (∀ x : Word, x ≠ 0xFF0F → x ≠ 0xFF41 → x ≠ 0xFF44 → (s.tick c).peek x = s.peek x) ∧
    ∀ j < 8, if j < 2 then (s.peek 0xFF0F).getLsbD j = true → ((s.tick c).peek 0xFF0F).getLsbD j = true
      else ((s.tick c).peek 0xFF0F).getLsbD j = (s.peek 0xFF0F).getLsbD j

/-! ### The serial tap (49_machine_step.md) -/

/-- R355: where SC holds the sentinel, SB is appended to the text and SC is cleared; else nothing happens; and so a step
appends at most one byte. The value of the sentinel is a parameter: this holds for every value
(decision D21). -/
def Obligations.SerialTap : Prop :=
  (∀ (cfg : Config) (s : State),
    (s.peek 0xFF02 = cfg.serialSentinel → ∃ t, s.serialTap cfg = t ∧
      t = { s with text := s.text ++ [s.peek 0xFF01], mem := t.mem } ∧ Stored s t 0xFF02 0x00) ∧
    (s.peek 0xFF02 ≠ cfg.serialSentinel → s.serialTap cfg = s)) ∧
  ∀ (cfg : Config) (s t : State), stepWith cfg s = .next t → t.text = s.text ∨ ∃ v, t.text = s.text ++ [v]

/-- R353: the tick and the tap commute: the order is not observable in any component of the state (the spec's
derivation, decision D19). The premise is the
memory part of the invariant, which every step keeps (`Obligations.StepKeepsInvariant`). -/
def Obligations.TickAndTapCommute : Prop :=
  ∀ (cfg : Config) (s : State) (c : Nat), s.MemInv → (s.tick c).serialTap cfg = (s.serialTap cfg).tick c

/-! ### Reset and invariants -/

/-- R44, R45: the reset state, the memory and the framebuffer being arguments (decisions D6, D10, D14 and D15 for what
the source does not give). -/
def Obligations.ResetValues : Prop :=
  ∀ (m : Memory) (fb : Frame) (s : State), s = State.resetWith m fb →
    s.a = 0x01 ∧ s.f = 0xB0 ∧ s.b = 0x00 ∧ s.c = 0x13 ∧ s.d = 0x00 ∧ s.e = 0xD8 ∧ s.h = 0x01 ∧ s.l = 0x4D ∧
    FlagsAre s true false true true ∧
    s.bc = 0x0013 ∧ s.de = 0x00D8 ∧ s.hl = 0x014D ∧ s.af = 0x01B0 ∧ s.sp = 0xFFFE ∧ s.pc = 0x0100 ∧
    s.stopped = false ∧ s.halted = false ∧ s.ppuLine = 0 ∧ s.ppuMode = .accessOAM ∧ s.ppuAcc = 0 ∧
    s.fb = fb ∧ s.mem = m ∧ s.text = [] ∧ s.frames = []

/-- The invariant of R26, R34 and R58 holds at reset, whatever the framebuffer and whatever memory in its canonical
form, that of `State.reset` included. -/
def Obligations.ResetHasInvariant : Prop :=
  (∀ (m : Memory) (fb : Frame), m.wf → m.backed → (State.resetWith m fb).Inv) ∧ State.reset.Inv

/-- R26, R34, R58: every step keeps the invariant: the low nibble of F is zero, the PPU's accumulator is below the budget
of its mode and its line is one the mode has, and memory keeps its canonical form over backing addresses. -/
def Obligations.StepKeepsInvariant : Prop :=
  ∀ (cfg : Config) (s t : State), s.Inv → stepWith cfg s = .next t → t.Inv
end

