-- ==== Sys2Proof/Laws/Memory.lean ====
section
/-!
SUPPORT. The store behind the bus: reading after writing, and the canonical form (20_memory.md rules R55, R58).
-/

namespace Sys2Proof.Machine

namespace Memory

@[simp] theorem get_nil (p : Nat) : get [] p = unlisted := rfl

theorem get_cons (k : Nat) (v : Byte) (m : Memory) (p : Nat) :
    get ((k, v) :: m) p = if p = k then v else get m p := rfl

theorem get_insert (m : Memory) (p q : Nat) (v : Byte) (h : ∀ cell ∈ m, cell.1 ≠ p) :
    get (insert m p v) q = if q = p then v else get m q := by
  induction m with
  | nil => rfl
  | cons cell rest ih =>
    obtain ⟨k, w⟩ := cell
    have hk : k ≠ p := h (k, w) (by simp)
    have ih := ih fun c hc => h c (by simp [hc])
    simp only [insert]
    split
    · simp only [get_cons]
    · simp only [get_cons, ih]
      by_cases hq : q = p
      · subst hq; simp [Ne.symm hk]
      · simp [hq]

theorem get_filter (m : Memory) (p q : Nat) :
    get (m.filter fun cell => cell.1 ≠ p) q = if q = p then unlisted else get m q := by
  induction m with
  | nil => simp
  | cons cell rest ih =>
    obtain ⟨k, w⟩ := cell
    by_cases hk : k = p
    · subst hk
      simp only [List.filter_cons, ne_eq, not_true_eq_false, decide_false, Bool.false_eq_true, if_false]
      rw [ih, get_cons]
      by_cases hq : q = k <;> simp [hq]
    · simp only [List.filter_cons, ne_eq, hk, not_false_eq_true, decide_true, if_true]
      rw [get_cons, get_cons, ih]
      by_cases hq : q = k
      · subst hq; simp [hk]
      · simp [hq]

/-- What every address reads as after a write. -/
@[simp] theorem get_put (m : Memory) (p q : Nat) (v : Byte) :
    get (put m p v) q = if q = p then v else get m q := by
  unfold put
  split
  · subst v; exact get_filter m p q
  · rw [get_insert _ _ _ _ (by simp), get_filter]
    by_cases hq : q = p <;> simp [hq]

theorem mem_insert (m : Memory) (p : Nat) (v : Byte) (cell : Host.Cell) :
    cell ∈ insert m p v ↔ cell = (p, v) ∨ cell ∈ m := by
  induction m with
  | nil => simp [insert]
  | cons c rest ih =>
    obtain ⟨k, w⟩ := c
    simp only [insert]
    split
    · simp
    · simp only [List.mem_cons, ih]; tauto

theorem pairwise_insert (m : Memory) (p : Nat) (v : Byte) (h : m.Pairwise fun x y => x.1 < y.1)
    (hp : ∀ cell ∈ m, cell.1 ≠ p) : (insert m p v).Pairwise fun x y => x.1 < y.1 := by
  induction m with
  | nil => simp [insert]
  | cons c rest ih =>
    obtain ⟨k, w⟩ := c
    have hk : k ≠ p := hp (k, w) (by simp)
    rw [List.pairwise_cons] at h
    simp only [insert]
    split
    · rename_i hlt
      rw [List.pairwise_cons, List.pairwise_cons]
      refine ⟨fun y hy => ?_, h⟩
      rcases List.mem_cons.1 hy with rfl | hy
      · exact hlt
      · exact Nat.lt_trans hlt (h.1 y hy)
    · rw [List.pairwise_cons]
      refine ⟨fun y hy => ?_, ih h.2 fun c hc => hp c (by simp [hc])⟩
      rcases (mem_insert rest p v y).1 hy with rfl | hy
      · simp only; omega
      · exact h.1 y hy

/-- A write keeps the canonical form. -/
theorem wf_put {m : Memory} (h : m.wf) (p : Nat) (v : Byte) : (put m p v).wf := by
  obtain ⟨hs, hv⟩ := h
  have hs' : (m.filter fun cell => cell.1 ≠ p).Pairwise fun x y => x.1 < y.1 := hs.filter _
  unfold put
  simp only
  split
  · exact ⟨hs', fun c hc => hv c (List.mem_of_mem_filter hc)⟩
  · rename_i hne
    refine ⟨pairwise_insert _ _ _ hs' (by simp), fun c hc => ?_⟩
    rcases (mem_insert _ _ _ _).1 hc with rfl | hc
    · exact hne
    · exact hv c (List.mem_of_mem_filter hc)

/-- A write to a backing address lists backing addresses only. -/
theorem backed_put {m : Memory} (h : m.backed) {p : Nat} (hp : isBacking p = true) (v : Byte) :
    (put m p v).backed := by
  intro c hc
  unfold put at hc
  simp only at hc
  split at hc
  · exact h c (List.mem_of_mem_filter hc)
  · rcases (mem_insert _ _ _ _).1 hc with rfl | hc
    · exact hp
    · exact h c (List.mem_of_mem_filter hc)

theorem get_of_lt {m : Memory} {p : Nat} (h : ∀ cell ∈ m, p < cell.1) : get m p = unlisted := by
  induction m with
  | nil => rfl
  | cons c rest ih =>
    obtain ⟨k, w⟩ := c
    have hk : p < k := h (k, w) (by simp)
    rw [get_cons, if_neg (by omega)]
    exact ih fun c hc => h c (by simp [hc])

/-- Memories in the canonical form that read alike are equal data. -/
theorem ext_of_wf {m n : Memory} (hm : m.wf) (hn : n.wf) (h : ∀ p, get m p = get n p) : m = n := by
  induction m generalizing n with
  | nil =>
    cases n with
    | nil => rfl
    | cons c rest =>
      obtain ⟨k, w⟩ := c
      exact absurd (by simpa [get_cons] using (h k).symm) (hn.2 (k, w) (by simp))
  | cons c rest ih =>
    obtain ⟨k, w⟩ := c
    have hm1 := List.pairwise_cons.1 hm.1
    have hw : w ≠ unlisted := hm.2 (k, w) (by simp)
    cases n with
    | nil => exact absurd (by simpa [get_cons] using h k) hw
    | cons d rest' =>
      obtain ⟨k', w'⟩ := d
      have hn1 := List.pairwise_cons.1 hn.1
      have hw' : w' ≠ unlisted := hn.2 (k', w') (by simp)
      have hkk : k = k' := by
        rcases Nat.lt_trichotomy k k' with hlt | heq | hgt
        · have := h k
          rw [get_cons, if_pos rfl, get_of_lt (m := (k', w') :: rest')
            (by intro c hc; rcases List.mem_cons.1 hc with rfl | hc
                · exact hlt
                · exact Nat.lt_trans hlt (hn1.1 c hc))] at this
          exact absurd this hw
        · exact heq
        · have := h k'
          rw [get_cons (k := k'), if_pos rfl, get_of_lt (m := (k, w) :: rest)
            (by intro c hc; rcases List.mem_cons.1 hc with rfl | hc
                · exact hgt
                · exact Nat.lt_trans hgt (hm1.1 c hc))] at this
          exact absurd this.symm hw'
      subst hkk
      have hww : w = w' := by simpa [get_cons] using h k
      subst hww
      rw [ih ⟨hm1.2, fun c hc => hm.2 c (by simp [hc])⟩ ⟨hn1.2, fun c hc => hn.2 c (by simp [hc])⟩]
      intro p
      by_cases hp : p = k
      · subst hp
        rw [get_of_lt (m := rest) hm1.1, get_of_lt (m := rest') hn1.1]
      · simpa [get_cons, hp] using h p

/-- Writes to different addresses commute. -/
theorem put_comm {m : Memory} (h : m.wf) {p q : Nat} (hpq : p ≠ q) (v w : Byte) :
    put (put m p v) q w = put (put m q w) p v := by
  refine ext_of_wf (wf_put (wf_put h _ _) _ _) (wf_put (wf_put h _ _) _ _) fun x => ?_
  simp only [get_put]
  by_cases hx : x = q
  · subst hx; simp [Ne.symm hpq]
  · simp [hx]

/-- Of two writes to one address the last is kept. -/
theorem put_put {m : Memory} (h : m.wf) (p : Nat) (v w : Byte) : put (put m p v) p w = put m p w := by
  refine ext_of_wf (wf_put (wf_put h _ _) _ _) (wf_put h _ _) fun x => ?_
  simp only [get_put]
  by_cases hx : x = p <;> simp [hx]

/-- Writing what is there changes nothing. -/
theorem put_get {m : Memory} (h : m.wf) (p : Nat) : put m p (get m p) = m := by
  refine ext_of_wf (wf_put h _ _) h fun x => ?_
  simp only [get_put]
  by_cases hx : x = p <;> simp [hx]

end Memory

end Sys2Proof.Machine
end

