-- ==== Sys2Proof/Laws/State.lean ====
section
/-!
SUPPORT. What each named update of the state does to each field: one lemma for a field an update leaves alone, so that no
proof unfolds a record update; and what the register and pair accessors read after each write (10_state.md rules R20,
R23, R27).
-/

namespace Sys2Proof.Machine

variable (s : State)

/-! #### setReg -/

@[simp] theorem State.setReg_f (r : Reg8) (v : Byte) : (s.setReg r v).f = s.f := by cases r <;> rfl
@[simp] theorem State.setReg_sp (r : Reg8) (v : Byte) : (s.setReg r v).sp = s.sp := by cases r <;> rfl
@[simp] theorem State.setReg_pc (r : Reg8) (v : Byte) : (s.setReg r v).pc = s.pc := by cases r <;> rfl
@[simp] theorem State.setReg_stopped (r : Reg8) (v : Byte) : (s.setReg r v).stopped = s.stopped := by cases r <;> rfl
@[simp] theorem State.setReg_halted (r : Reg8) (v : Byte) : (s.setReg r v).halted = s.halted := by cases r <;> rfl
@[simp] theorem State.setReg_ppuLine (r : Reg8) (v : Byte) : (s.setReg r v).ppuLine = s.ppuLine := by cases r <;> rfl
@[simp] theorem State.setReg_ppuMode (r : Reg8) (v : Byte) : (s.setReg r v).ppuMode = s.ppuMode := by cases r <;> rfl
@[simp] theorem State.setReg_ppuAcc (r : Reg8) (v : Byte) : (s.setReg r v).ppuAcc = s.ppuAcc := by cases r <;> rfl
@[simp] theorem State.setReg_fb (r : Reg8) (v : Byte) : (s.setReg r v).fb = s.fb := by cases r <;> rfl
@[simp] theorem State.setReg_mem (r : Reg8) (v : Byte) : (s.setReg r v).mem = s.mem := by cases r <;> rfl
@[simp] theorem State.setReg_text (r : Reg8) (v : Byte) : (s.setReg r v).text = s.text := by cases r <;> rfl
@[simp] theorem State.setReg_frames (r : Reg8) (v : Byte) : (s.setReg r v).frames = s.frames := by cases r <;> rfl

/-! #### setBC -/

@[simp] theorem State.setBC_a (w : Word) : (s.setBC w).a = s.a := rfl
@[simp] theorem State.setBC_f (w : Word) : (s.setBC w).f = s.f := rfl
@[simp] theorem State.setBC_d (w : Word) : (s.setBC w).d = s.d := rfl
@[simp] theorem State.setBC_e (w : Word) : (s.setBC w).e = s.e := rfl
@[simp] theorem State.setBC_h (w : Word) : (s.setBC w).h = s.h := rfl
@[simp] theorem State.setBC_l (w : Word) : (s.setBC w).l = s.l := rfl
@[simp] theorem State.setBC_sp (w : Word) : (s.setBC w).sp = s.sp := rfl
@[simp] theorem State.setBC_pc (w : Word) : (s.setBC w).pc = s.pc := rfl
@[simp] theorem State.setBC_stopped (w : Word) : (s.setBC w).stopped = s.stopped := rfl
@[simp] theorem State.setBC_halted (w : Word) : (s.setBC w).halted = s.halted := rfl
@[simp] theorem State.setBC_ppuLine (w : Word) : (s.setBC w).ppuLine = s.ppuLine := rfl
@[simp] theorem State.setBC_ppuMode (w : Word) : (s.setBC w).ppuMode = s.ppuMode := rfl
@[simp] theorem State.setBC_ppuAcc (w : Word) : (s.setBC w).ppuAcc = s.ppuAcc := rfl
@[simp] theorem State.setBC_fb (w : Word) : (s.setBC w).fb = s.fb := rfl
@[simp] theorem State.setBC_mem (w : Word) : (s.setBC w).mem = s.mem := rfl
@[simp] theorem State.setBC_text (w : Word) : (s.setBC w).text = s.text := rfl
@[simp] theorem State.setBC_frames (w : Word) : (s.setBC w).frames = s.frames := rfl

/-! #### setDE -/

@[simp] theorem State.setDE_a (w : Word) : (s.setDE w).a = s.a := rfl
@[simp] theorem State.setDE_f (w : Word) : (s.setDE w).f = s.f := rfl
@[simp] theorem State.setDE_b (w : Word) : (s.setDE w).b = s.b := rfl
@[simp] theorem State.setDE_c (w : Word) : (s.setDE w).c = s.c := rfl
@[simp] theorem State.setDE_h (w : Word) : (s.setDE w).h = s.h := rfl
@[simp] theorem State.setDE_l (w : Word) : (s.setDE w).l = s.l := rfl
@[simp] theorem State.setDE_sp (w : Word) : (s.setDE w).sp = s.sp := rfl
@[simp] theorem State.setDE_pc (w : Word) : (s.setDE w).pc = s.pc := rfl
@[simp] theorem State.setDE_stopped (w : Word) : (s.setDE w).stopped = s.stopped := rfl
@[simp] theorem State.setDE_halted (w : Word) : (s.setDE w).halted = s.halted := rfl
@[simp] theorem State.setDE_ppuLine (w : Word) : (s.setDE w).ppuLine = s.ppuLine := rfl
@[simp] theorem State.setDE_ppuMode (w : Word) : (s.setDE w).ppuMode = s.ppuMode := rfl
@[simp] theorem State.setDE_ppuAcc (w : Word) : (s.setDE w).ppuAcc = s.ppuAcc := rfl
@[simp] theorem State.setDE_fb (w : Word) : (s.setDE w).fb = s.fb := rfl
@[simp] theorem State.setDE_mem (w : Word) : (s.setDE w).mem = s.mem := rfl
@[simp] theorem State.setDE_text (w : Word) : (s.setDE w).text = s.text := rfl
@[simp] theorem State.setDE_frames (w : Word) : (s.setDE w).frames = s.frames := rfl

/-! #### setHL -/

@[simp] theorem State.setHL_a (w : Word) : (s.setHL w).a = s.a := rfl
@[simp] theorem State.setHL_f (w : Word) : (s.setHL w).f = s.f := rfl
@[simp] theorem State.setHL_b (w : Word) : (s.setHL w).b = s.b := rfl
@[simp] theorem State.setHL_c (w : Word) : (s.setHL w).c = s.c := rfl
@[simp] theorem State.setHL_d (w : Word) : (s.setHL w).d = s.d := rfl
@[simp] theorem State.setHL_e (w : Word) : (s.setHL w).e = s.e := rfl
@[simp] theorem State.setHL_sp (w : Word) : (s.setHL w).sp = s.sp := rfl
@[simp] theorem State.setHL_pc (w : Word) : (s.setHL w).pc = s.pc := rfl
@[simp] theorem State.setHL_stopped (w : Word) : (s.setHL w).stopped = s.stopped := rfl
@[simp] theorem State.setHL_halted (w : Word) : (s.setHL w).halted = s.halted := rfl
@[simp] theorem State.setHL_ppuLine (w : Word) : (s.setHL w).ppuLine = s.ppuLine := rfl
@[simp] theorem State.setHL_ppuMode (w : Word) : (s.setHL w).ppuMode = s.ppuMode := rfl
@[simp] theorem State.setHL_ppuAcc (w : Word) : (s.setHL w).ppuAcc = s.ppuAcc := rfl
@[simp] theorem State.setHL_fb (w : Word) : (s.setHL w).fb = s.fb := rfl
@[simp] theorem State.setHL_mem (w : Word) : (s.setHL w).mem = s.mem := rfl
@[simp] theorem State.setHL_text (w : Word) : (s.setHL w).text = s.text := rfl
@[simp] theorem State.setHL_frames (w : Word) : (s.setHL w).frames = s.frames := rfl

/-! #### setAF -/

@[simp] theorem State.setAF_b (w : Word) : (s.setAF w).b = s.b := rfl
@[simp] theorem State.setAF_c (w : Word) : (s.setAF w).c = s.c := rfl
@[simp] theorem State.setAF_d (w : Word) : (s.setAF w).d = s.d := rfl
@[simp] theorem State.setAF_e (w : Word) : (s.setAF w).e = s.e := rfl
@[simp] theorem State.setAF_h (w : Word) : (s.setAF w).h = s.h := rfl
@[simp] theorem State.setAF_l (w : Word) : (s.setAF w).l = s.l := rfl
@[simp] theorem State.setAF_sp (w : Word) : (s.setAF w).sp = s.sp := rfl
@[simp] theorem State.setAF_pc (w : Word) : (s.setAF w).pc = s.pc := rfl
@[simp] theorem State.setAF_stopped (w : Word) : (s.setAF w).stopped = s.stopped := rfl
@[simp] theorem State.setAF_halted (w : Word) : (s.setAF w).halted = s.halted := rfl
@[simp] theorem State.setAF_ppuLine (w : Word) : (s.setAF w).ppuLine = s.ppuLine := rfl
@[simp] theorem State.setAF_ppuMode (w : Word) : (s.setAF w).ppuMode = s.ppuMode := rfl
@[simp] theorem State.setAF_ppuAcc (w : Word) : (s.setAF w).ppuAcc = s.ppuAcc := rfl
@[simp] theorem State.setAF_fb (w : Word) : (s.setAF w).fb = s.fb := rfl
@[simp] theorem State.setAF_mem (w : Word) : (s.setAF w).mem = s.mem := rfl
@[simp] theorem State.setAF_text (w : Word) : (s.setAF w).text = s.text := rfl
@[simp] theorem State.setAF_frames (w : Word) : (s.setAF w).frames = s.frames := rfl

/-! #### setPair -/

@[simp] theorem State.setPair_a (p : Pair) (w : Word) : (s.setPair p w).a = s.a := by cases p <;> rfl
@[simp] theorem State.setPair_f (p : Pair) (w : Word) : (s.setPair p w).f = s.f := by cases p <;> rfl
@[simp] theorem State.setPair_pc (p : Pair) (w : Word) : (s.setPair p w).pc = s.pc := by cases p <;> rfl
@[simp] theorem State.setPair_stopped (p : Pair) (w : Word) : (s.setPair p w).stopped = s.stopped := by cases p <;> rfl
@[simp] theorem State.setPair_halted (p : Pair) (w : Word) : (s.setPair p w).halted = s.halted := by cases p <;> rfl
@[simp] theorem State.setPair_ppuLine (p : Pair) (w : Word) : (s.setPair p w).ppuLine = s.ppuLine := by cases p <;> rfl
@[simp] theorem State.setPair_ppuMode (p : Pair) (w : Word) : (s.setPair p w).ppuMode = s.ppuMode := by cases p <;> rfl
@[simp] theorem State.setPair_ppuAcc (p : Pair) (w : Word) : (s.setPair p w).ppuAcc = s.ppuAcc := by cases p <;> rfl
@[simp] theorem State.setPair_fb (p : Pair) (w : Word) : (s.setPair p w).fb = s.fb := by cases p <;> rfl
@[simp] theorem State.setPair_mem (p : Pair) (w : Word) : (s.setPair p w).mem = s.mem := by cases p <;> rfl
@[simp] theorem State.setPair_text (p : Pair) (w : Word) : (s.setPair p w).text = s.text := by cases p <;> rfl
@[simp] theorem State.setPair_frames (p : Pair) (w : Word) : (s.setPair p w).frames = s.frames := by cases p <;> rfl

/-! #### setStackPair -/

@[simp] theorem State.setStackPair_sp (q : StackPair) (w : Word) : (s.setStackPair q w).sp = s.sp := by cases q <;> rfl
@[simp] theorem State.setStackPair_pc (q : StackPair) (w : Word) : (s.setStackPair q w).pc = s.pc := by cases q <;> rfl
@[simp] theorem State.setStackPair_stopped (q : StackPair) (w : Word) : (s.setStackPair q w).stopped = s.stopped := by cases q <;> rfl
@[simp] theorem State.setStackPair_halted (q : StackPair) (w : Word) : (s.setStackPair q w).halted = s.halted := by cases q <;> rfl
@[simp] theorem State.setStackPair_ppuLine (q : StackPair) (w : Word) : (s.setStackPair q w).ppuLine = s.ppuLine := by cases q <;> rfl
@[simp] theorem State.setStackPair_ppuMode (q : StackPair) (w : Word) : (s.setStackPair q w).ppuMode = s.ppuMode := by cases q <;> rfl
@[simp] theorem State.setStackPair_ppuAcc (q : StackPair) (w : Word) : (s.setStackPair q w).ppuAcc = s.ppuAcc := by cases q <;> rfl
@[simp] theorem State.setStackPair_fb (q : StackPair) (w : Word) : (s.setStackPair q w).fb = s.fb := by cases q <;> rfl
@[simp] theorem State.setStackPair_mem (q : StackPair) (w : Word) : (s.setStackPair q w).mem = s.mem := by cases q <;> rfl
@[simp] theorem State.setStackPair_text (q : StackPair) (w : Word) : (s.setStackPair q w).text = s.text := by cases q <;> rfl
@[simp] theorem State.setStackPair_frames (q : StackPair) (w : Word) : (s.setStackPair q w).frames = s.frames := by cases q <;> rfl

/-! #### setFlags -/

@[simp] theorem State.setFlags_a (g : Flags) : (s.setFlags g).a = s.a := rfl
@[simp] theorem State.setFlags_b (g : Flags) : (s.setFlags g).b = s.b := rfl
@[simp] theorem State.setFlags_c (g : Flags) : (s.setFlags g).c = s.c := rfl
@[simp] theorem State.setFlags_d (g : Flags) : (s.setFlags g).d = s.d := rfl
@[simp] theorem State.setFlags_e (g : Flags) : (s.setFlags g).e = s.e := rfl
@[simp] theorem State.setFlags_h (g : Flags) : (s.setFlags g).h = s.h := rfl
@[simp] theorem State.setFlags_l (g : Flags) : (s.setFlags g).l = s.l := rfl
@[simp] theorem State.setFlags_sp (g : Flags) : (s.setFlags g).sp = s.sp := rfl
@[simp] theorem State.setFlags_pc (g : Flags) : (s.setFlags g).pc = s.pc := rfl
@[simp] theorem State.setFlags_stopped (g : Flags) : (s.setFlags g).stopped = s.stopped := rfl
@[simp] theorem State.setFlags_halted (g : Flags) : (s.setFlags g).halted = s.halted := rfl
@[simp] theorem State.setFlags_ppuLine (g : Flags) : (s.setFlags g).ppuLine = s.ppuLine := rfl
@[simp] theorem State.setFlags_ppuMode (g : Flags) : (s.setFlags g).ppuMode = s.ppuMode := rfl
@[simp] theorem State.setFlags_ppuAcc (g : Flags) : (s.setFlags g).ppuAcc = s.ppuAcc := rfl
@[simp] theorem State.setFlags_fb (g : Flags) : (s.setFlags g).fb = s.fb := rfl
@[simp] theorem State.setFlags_mem (g : Flags) : (s.setFlags g).mem = s.mem := rfl
@[simp] theorem State.setFlags_text (g : Flags) : (s.setFlags g).text = s.text := rfl
@[simp] theorem State.setFlags_frames (g : Flags) : (s.setFlags g).frames = s.frames := rfl

/-! #### jump -/

@[simp] theorem State.jump_a (w : Word) : (s.jump w).a = s.a := rfl
@[simp] theorem State.jump_f (w : Word) : (s.jump w).f = s.f := rfl
@[simp] theorem State.jump_b (w : Word) : (s.jump w).b = s.b := rfl
@[simp] theorem State.jump_c (w : Word) : (s.jump w).c = s.c := rfl
@[simp] theorem State.jump_d (w : Word) : (s.jump w).d = s.d := rfl
@[simp] theorem State.jump_e (w : Word) : (s.jump w).e = s.e := rfl
@[simp] theorem State.jump_h (w : Word) : (s.jump w).h = s.h := rfl
@[simp] theorem State.jump_l (w : Word) : (s.jump w).l = s.l := rfl
@[simp] theorem State.jump_sp (w : Word) : (s.jump w).sp = s.sp := rfl
@[simp] theorem State.jump_stopped (w : Word) : (s.jump w).stopped = s.stopped := rfl
@[simp] theorem State.jump_halted (w : Word) : (s.jump w).halted = s.halted := rfl
@[simp] theorem State.jump_ppuLine (w : Word) : (s.jump w).ppuLine = s.ppuLine := rfl
@[simp] theorem State.jump_ppuMode (w : Word) : (s.jump w).ppuMode = s.ppuMode := rfl
@[simp] theorem State.jump_ppuAcc (w : Word) : (s.jump w).ppuAcc = s.ppuAcc := rfl
@[simp] theorem State.jump_fb (w : Word) : (s.jump w).fb = s.fb := rfl
@[simp] theorem State.jump_mem (w : Word) : (s.jump w).mem = s.mem := rfl
@[simp] theorem State.jump_text (w : Word) : (s.jump w).text = s.text := rfl
@[simp] theorem State.jump_frames (w : Word) : (s.jump w).frames = s.frames := rfl

/-! #### advance -/

@[simp] theorem State.advance_a (n : Nat) : (s.advance n).a = s.a := rfl
@[simp] theorem State.advance_f (n : Nat) : (s.advance n).f = s.f := rfl
@[simp] theorem State.advance_b (n : Nat) : (s.advance n).b = s.b := rfl
@[simp] theorem State.advance_c (n : Nat) : (s.advance n).c = s.c := rfl
@[simp] theorem State.advance_d (n : Nat) : (s.advance n).d = s.d := rfl
@[simp] theorem State.advance_e (n : Nat) : (s.advance n).e = s.e := rfl
@[simp] theorem State.advance_h (n : Nat) : (s.advance n).h = s.h := rfl
@[simp] theorem State.advance_l (n : Nat) : (s.advance n).l = s.l := rfl
@[simp] theorem State.advance_sp (n : Nat) : (s.advance n).sp = s.sp := rfl
@[simp] theorem State.advance_stopped (n : Nat) : (s.advance n).stopped = s.stopped := rfl
@[simp] theorem State.advance_halted (n : Nat) : (s.advance n).halted = s.halted := rfl
@[simp] theorem State.advance_ppuLine (n : Nat) : (s.advance n).ppuLine = s.ppuLine := rfl
@[simp] theorem State.advance_ppuMode (n : Nat) : (s.advance n).ppuMode = s.ppuMode := rfl
@[simp] theorem State.advance_ppuAcc (n : Nat) : (s.advance n).ppuAcc = s.ppuAcc := rfl
@[simp] theorem State.advance_fb (n : Nat) : (s.advance n).fb = s.fb := rfl
@[simp] theorem State.advance_mem (n : Nat) : (s.advance n).mem = s.mem := rfl
@[simp] theorem State.advance_text (n : Nat) : (s.advance n).text = s.text := rfl
@[simp] theorem State.advance_frames (n : Nat) : (s.advance n).frames = s.frames := rfl

/-! #### poke -/

@[simp] theorem State.poke_a (x : Word) (v : Byte) : (s.poke x v).a = s.a := by unfold State.poke; split <;> first | rfl | (split <;> rfl)
@[simp] theorem State.poke_f (x : Word) (v : Byte) : (s.poke x v).f = s.f := by unfold State.poke; split <;> first | rfl | (split <;> rfl)
@[simp] theorem State.poke_b (x : Word) (v : Byte) : (s.poke x v).b = s.b := by unfold State.poke; split <;> first | rfl | (split <;> rfl)
@[simp] theorem State.poke_c (x : Word) (v : Byte) : (s.poke x v).c = s.c := by unfold State.poke; split <;> first | rfl | (split <;> rfl)
@[simp] theorem State.poke_d (x : Word) (v : Byte) : (s.poke x v).d = s.d := by unfold State.poke; split <;> first | rfl | (split <;> rfl)
@[simp] theorem State.poke_e (x : Word) (v : Byte) : (s.poke x v).e = s.e := by unfold State.poke; split <;> first | rfl | (split <;> rfl)
@[simp] theorem State.poke_h (x : Word) (v : Byte) : (s.poke x v).h = s.h := by unfold State.poke; split <;> first | rfl | (split <;> rfl)
@[simp] theorem State.poke_l (x : Word) (v : Byte) : (s.poke x v).l = s.l := by unfold State.poke; split <;> first | rfl | (split <;> rfl)
@[simp] theorem State.poke_sp (x : Word) (v : Byte) : (s.poke x v).sp = s.sp := by unfold State.poke; split <;> first | rfl | (split <;> rfl)
@[simp] theorem State.poke_pc (x : Word) (v : Byte) : (s.poke x v).pc = s.pc := by unfold State.poke; split <;> first | rfl | (split <;> rfl)
@[simp] theorem State.poke_stopped (x : Word) (v : Byte) : (s.poke x v).stopped = s.stopped := by unfold State.poke; split <;> first | rfl | (split <;> rfl)
@[simp] theorem State.poke_halted (x : Word) (v : Byte) : (s.poke x v).halted = s.halted := by unfold State.poke; split <;> first | rfl | (split <;> rfl)
@[simp] theorem State.poke_ppuLine (x : Word) (v : Byte) : (s.poke x v).ppuLine = s.ppuLine := by unfold State.poke; split <;> first | rfl | (split <;> rfl)
@[simp] theorem State.poke_ppuMode (x : Word) (v : Byte) : (s.poke x v).ppuMode = s.ppuMode := by unfold State.poke; split <;> first | rfl | (split <;> rfl)
@[simp] theorem State.poke_ppuAcc (x : Word) (v : Byte) : (s.poke x v).ppuAcc = s.ppuAcc := by unfold State.poke; split <;> first | rfl | (split <;> rfl)
@[simp] theorem State.poke_fb (x : Word) (v : Byte) : (s.poke x v).fb = s.fb := by unfold State.poke; split <;> first | rfl | (split <;> rfl)
@[simp] theorem State.poke_text (x : Word) (v : Byte) : (s.poke x v).text = s.text := by unfold State.poke; split <;> first | rfl | (split <;> rfl)
@[simp] theorem State.poke_frames (x : Word) (v : Byte) : (s.poke x v).frames = s.frames := by unfold State.poke; split <;> first | rfl | (split <;> rfl)

/-! #### accAfter -/

@[simp] theorem State.accAfter_a (m : AccAddr) : (s.accAfter m).a = s.a := by cases m <;> rfl
@[simp] theorem State.accAfter_f (m : AccAddr) : (s.accAfter m).f = s.f := by cases m <;> rfl
@[simp] theorem State.accAfter_b (m : AccAddr) : (s.accAfter m).b = s.b := by cases m <;> rfl
@[simp] theorem State.accAfter_c (m : AccAddr) : (s.accAfter m).c = s.c := by cases m <;> rfl
@[simp] theorem State.accAfter_d (m : AccAddr) : (s.accAfter m).d = s.d := by cases m <;> rfl
@[simp] theorem State.accAfter_e (m : AccAddr) : (s.accAfter m).e = s.e := by cases m <;> rfl
@[simp] theorem State.accAfter_sp (m : AccAddr) : (s.accAfter m).sp = s.sp := by cases m <;> rfl
@[simp] theorem State.accAfter_pc (m : AccAddr) : (s.accAfter m).pc = s.pc := by cases m <;> rfl
@[simp] theorem State.accAfter_stopped (m : AccAddr) : (s.accAfter m).stopped = s.stopped := by cases m <;> rfl
@[simp] theorem State.accAfter_halted (m : AccAddr) : (s.accAfter m).halted = s.halted := by cases m <;> rfl
@[simp] theorem State.accAfter_ppuLine (m : AccAddr) : (s.accAfter m).ppuLine = s.ppuLine := by cases m <;> rfl
@[simp] theorem State.accAfter_ppuMode (m : AccAddr) : (s.accAfter m).ppuMode = s.ppuMode := by cases m <;> rfl
@[simp] theorem State.accAfter_ppuAcc (m : AccAddr) : (s.accAfter m).ppuAcc = s.ppuAcc := by cases m <;> rfl
@[simp] theorem State.accAfter_fb (m : AccAddr) : (s.accAfter m).fb = s.fb := by cases m <;> rfl
@[simp] theorem State.accAfter_mem (m : AccAddr) : (s.accAfter m).mem = s.mem := by cases m <;> rfl
@[simp] theorem State.accAfter_text (m : AccAddr) : (s.accAfter m).text = s.text := by cases m <;> rfl
@[simp] theorem State.accAfter_frames (m : AccAddr) : (s.accAfter m).frames = s.frames := by cases m <;> rfl

/-! #### alu -/

@[simp] theorem State.alu_b (o : AluOp) (v : Byte) : (s.alu o v).b = s.b := by cases o <;> rfl
@[simp] theorem State.alu_c (o : AluOp) (v : Byte) : (s.alu o v).c = s.c := by cases o <;> rfl
@[simp] theorem State.alu_d (o : AluOp) (v : Byte) : (s.alu o v).d = s.d := by cases o <;> rfl
@[simp] theorem State.alu_e (o : AluOp) (v : Byte) : (s.alu o v).e = s.e := by cases o <;> rfl
@[simp] theorem State.alu_h (o : AluOp) (v : Byte) : (s.alu o v).h = s.h := by cases o <;> rfl
@[simp] theorem State.alu_l (o : AluOp) (v : Byte) : (s.alu o v).l = s.l := by cases o <;> rfl
@[simp] theorem State.alu_sp (o : AluOp) (v : Byte) : (s.alu o v).sp = s.sp := by cases o <;> rfl
@[simp] theorem State.alu_pc (o : AluOp) (v : Byte) : (s.alu o v).pc = s.pc := by cases o <;> rfl
@[simp] theorem State.alu_stopped (o : AluOp) (v : Byte) : (s.alu o v).stopped = s.stopped := by cases o <;> rfl
@[simp] theorem State.alu_halted (o : AluOp) (v : Byte) : (s.alu o v).halted = s.halted := by cases o <;> rfl
@[simp] theorem State.alu_ppuLine (o : AluOp) (v : Byte) : (s.alu o v).ppuLine = s.ppuLine := by cases o <;> rfl
@[simp] theorem State.alu_ppuMode (o : AluOp) (v : Byte) : (s.alu o v).ppuMode = s.ppuMode := by cases o <;> rfl
@[simp] theorem State.alu_ppuAcc (o : AluOp) (v : Byte) : (s.alu o v).ppuAcc = s.ppuAcc := by cases o <;> rfl
@[simp] theorem State.alu_fb (o : AluOp) (v : Byte) : (s.alu o v).fb = s.fb := by cases o <;> rfl
@[simp] theorem State.alu_mem (o : AluOp) (v : Byte) : (s.alu o v).mem = s.mem := by cases o <;> rfl
@[simp] theorem State.alu_text (o : AluOp) (v : Byte) : (s.alu o v).text = s.text := by cases o <;> rfl
@[simp] theorem State.alu_frames (o : AluOp) (v : Byte) : (s.alu o v).frames = s.frames := by cases o <;> rfl

/-! #### renderLine -/

@[simp] theorem State.renderLine_a (y : Nat) : (s.renderLine y).a = s.a := by unfold State.renderLine; split <;> rfl
@[simp] theorem State.renderLine_f (y : Nat) : (s.renderLine y).f = s.f := by unfold State.renderLine; split <;> rfl
@[simp] theorem State.renderLine_b (y : Nat) : (s.renderLine y).b = s.b := by unfold State.renderLine; split <;> rfl
@[simp] theorem State.renderLine_c (y : Nat) : (s.renderLine y).c = s.c := by unfold State.renderLine; split <;> rfl
@[simp] theorem State.renderLine_d (y : Nat) : (s.renderLine y).d = s.d := by unfold State.renderLine; split <;> rfl
@[simp] theorem State.renderLine_e (y : Nat) : (s.renderLine y).e = s.e := by unfold State.renderLine; split <;> rfl
@[simp] theorem State.renderLine_h (y : Nat) : (s.renderLine y).h = s.h := by unfold State.renderLine; split <;> rfl
@[simp] theorem State.renderLine_l (y : Nat) : (s.renderLine y).l = s.l := by unfold State.renderLine; split <;> rfl
@[simp] theorem State.renderLine_sp (y : Nat) : (s.renderLine y).sp = s.sp := by unfold State.renderLine; split <;> rfl
@[simp] theorem State.renderLine_pc (y : Nat) : (s.renderLine y).pc = s.pc := by unfold State.renderLine; split <;> rfl
@[simp] theorem State.renderLine_stopped (y : Nat) : (s.renderLine y).stopped = s.stopped := by unfold State.renderLine; split <;> rfl
@[simp] theorem State.renderLine_halted (y : Nat) : (s.renderLine y).halted = s.halted := by unfold State.renderLine; split <;> rfl
@[simp] theorem State.renderLine_ppuLine (y : Nat) : (s.renderLine y).ppuLine = s.ppuLine := by unfold State.renderLine; split <;> rfl
@[simp] theorem State.renderLine_ppuMode (y : Nat) : (s.renderLine y).ppuMode = s.ppuMode := by unfold State.renderLine; split <;> rfl
@[simp] theorem State.renderLine_ppuAcc (y : Nat) : (s.renderLine y).ppuAcc = s.ppuAcc := by unfold State.renderLine; split <;> rfl
@[simp] theorem State.renderLine_mem (y : Nat) : (s.renderLine y).mem = s.mem := by unfold State.renderLine; split <;> rfl
@[simp] theorem State.renderLine_text (y : Nat) : (s.renderLine y).text = s.text := by unfold State.renderLine; split <;> rfl
@[simp] theorem State.renderLine_frames (y : Nat) : (s.renderLine y).frames = s.frames := by unfold State.renderLine; split <;> rfl

/-! #### setMemBit -/

@[simp] theorem State.setMemBit_a (x : Word) (i : Fin 8) : (s.setMemBit x i).a = s.a := by simp [State.setMemBit]
@[simp] theorem State.setMemBit_f (x : Word) (i : Fin 8) : (s.setMemBit x i).f = s.f := by simp [State.setMemBit]
@[simp] theorem State.setMemBit_b (x : Word) (i : Fin 8) : (s.setMemBit x i).b = s.b := by simp [State.setMemBit]
@[simp] theorem State.setMemBit_c (x : Word) (i : Fin 8) : (s.setMemBit x i).c = s.c := by simp [State.setMemBit]
@[simp] theorem State.setMemBit_d (x : Word) (i : Fin 8) : (s.setMemBit x i).d = s.d := by simp [State.setMemBit]
@[simp] theorem State.setMemBit_e (x : Word) (i : Fin 8) : (s.setMemBit x i).e = s.e := by simp [State.setMemBit]
@[simp] theorem State.setMemBit_h (x : Word) (i : Fin 8) : (s.setMemBit x i).h = s.h := by simp [State.setMemBit]
@[simp] theorem State.setMemBit_l (x : Word) (i : Fin 8) : (s.setMemBit x i).l = s.l := by simp [State.setMemBit]
@[simp] theorem State.setMemBit_sp (x : Word) (i : Fin 8) : (s.setMemBit x i).sp = s.sp := by simp [State.setMemBit]
@[simp] theorem State.setMemBit_pc (x : Word) (i : Fin 8) : (s.setMemBit x i).pc = s.pc := by simp [State.setMemBit]
@[simp] theorem State.setMemBit_stopped (x : Word) (i : Fin 8) : (s.setMemBit x i).stopped = s.stopped := by simp [State.setMemBit]
@[simp] theorem State.setMemBit_halted (x : Word) (i : Fin 8) : (s.setMemBit x i).halted = s.halted := by simp [State.setMemBit]
@[simp] theorem State.setMemBit_ppuLine (x : Word) (i : Fin 8) : (s.setMemBit x i).ppuLine = s.ppuLine := by simp [State.setMemBit]
@[simp] theorem State.setMemBit_ppuMode (x : Word) (i : Fin 8) : (s.setMemBit x i).ppuMode = s.ppuMode := by simp [State.setMemBit]
@[simp] theorem State.setMemBit_ppuAcc (x : Word) (i : Fin 8) : (s.setMemBit x i).ppuAcc = s.ppuAcc := by simp [State.setMemBit]
@[simp] theorem State.setMemBit_fb (x : Word) (i : Fin 8) : (s.setMemBit x i).fb = s.fb := by simp [State.setMemBit]
@[simp] theorem State.setMemBit_text (x : Word) (i : Fin 8) : (s.setMemBit x i).text = s.text := by simp [State.setMemBit]
@[simp] theorem State.setMemBit_frames (x : Word) (i : Fin 8) : (s.setMemBit x i).frames = s.frames := by simp [State.setMemBit]

/-! #### clearMemBit -/

@[simp] theorem State.clearMemBit_a (x : Word) (i : Fin 8) : (s.clearMemBit x i).a = s.a := by simp [State.clearMemBit]
@[simp] theorem State.clearMemBit_f (x : Word) (i : Fin 8) : (s.clearMemBit x i).f = s.f := by simp [State.clearMemBit]
@[simp] theorem State.clearMemBit_b (x : Word) (i : Fin 8) : (s.clearMemBit x i).b = s.b := by simp [State.clearMemBit]
@[simp] theorem State.clearMemBit_c (x : Word) (i : Fin 8) : (s.clearMemBit x i).c = s.c := by simp [State.clearMemBit]
@[simp] theorem State.clearMemBit_d (x : Word) (i : Fin 8) : (s.clearMemBit x i).d = s.d := by simp [State.clearMemBit]
@[simp] theorem State.clearMemBit_e (x : Word) (i : Fin 8) : (s.clearMemBit x i).e = s.e := by simp [State.clearMemBit]
@[simp] theorem State.clearMemBit_h (x : Word) (i : Fin 8) : (s.clearMemBit x i).h = s.h := by simp [State.clearMemBit]
@[simp] theorem State.clearMemBit_l (x : Word) (i : Fin 8) : (s.clearMemBit x i).l = s.l := by simp [State.clearMemBit]
@[simp] theorem State.clearMemBit_sp (x : Word) (i : Fin 8) : (s.clearMemBit x i).sp = s.sp := by simp [State.clearMemBit]
@[simp] theorem State.clearMemBit_pc (x : Word) (i : Fin 8) : (s.clearMemBit x i).pc = s.pc := by simp [State.clearMemBit]
@[simp] theorem State.clearMemBit_stopped (x : Word) (i : Fin 8) : (s.clearMemBit x i).stopped = s.stopped := by simp [State.clearMemBit]
@[simp] theorem State.clearMemBit_halted (x : Word) (i : Fin 8) : (s.clearMemBit x i).halted = s.halted := by simp [State.clearMemBit]
@[simp] theorem State.clearMemBit_ppuLine (x : Word) (i : Fin 8) : (s.clearMemBit x i).ppuLine = s.ppuLine := by simp [State.clearMemBit]
@[simp] theorem State.clearMemBit_ppuMode (x : Word) (i : Fin 8) : (s.clearMemBit x i).ppuMode = s.ppuMode := by simp [State.clearMemBit]
@[simp] theorem State.clearMemBit_ppuAcc (x : Word) (i : Fin 8) : (s.clearMemBit x i).ppuAcc = s.ppuAcc := by simp [State.clearMemBit]
@[simp] theorem State.clearMemBit_fb (x : Word) (i : Fin 8) : (s.clearMemBit x i).fb = s.fb := by simp [State.clearMemBit]
@[simp] theorem State.clearMemBit_text (x : Word) (i : Fin 8) : (s.clearMemBit x i).text = s.text := by simp [State.clearMemBit]
@[simp] theorem State.clearMemBit_frames (x : Word) (i : Fin 8) : (s.clearMemBit x i).frames = s.frames := by simp [State.clearMemBit]

/-! #### setMode -/

@[simp] theorem State.setMode_a (m : PpuMode) : (s.setMode m).a = s.a := by simp [State.setMode]
@[simp] theorem State.setMode_f (m : PpuMode) : (s.setMode m).f = s.f := by simp [State.setMode]
@[simp] theorem State.setMode_b (m : PpuMode) : (s.setMode m).b = s.b := by simp [State.setMode]
@[simp] theorem State.setMode_c (m : PpuMode) : (s.setMode m).c = s.c := by simp [State.setMode]
@[simp] theorem State.setMode_d (m : PpuMode) : (s.setMode m).d = s.d := by simp [State.setMode]
@[simp] theorem State.setMode_e (m : PpuMode) : (s.setMode m).e = s.e := by simp [State.setMode]
@[simp] theorem State.setMode_h (m : PpuMode) : (s.setMode m).h = s.h := by simp [State.setMode]
@[simp] theorem State.setMode_l (m : PpuMode) : (s.setMode m).l = s.l := by simp [State.setMode]
@[simp] theorem State.setMode_sp (m : PpuMode) : (s.setMode m).sp = s.sp := by simp [State.setMode]
@[simp] theorem State.setMode_pc (m : PpuMode) : (s.setMode m).pc = s.pc := by simp [State.setMode]
@[simp] theorem State.setMode_stopped (m : PpuMode) : (s.setMode m).stopped = s.stopped := by simp [State.setMode]
@[simp] theorem State.setMode_halted (m : PpuMode) : (s.setMode m).halted = s.halted := by simp [State.setMode]
@[simp] theorem State.setMode_ppuLine (m : PpuMode) : (s.setMode m).ppuLine = s.ppuLine := by simp [State.setMode]
@[simp] theorem State.setMode_ppuAcc (m : PpuMode) : (s.setMode m).ppuAcc = s.ppuAcc := by simp [State.setMode]
@[simp] theorem State.setMode_fb (m : PpuMode) : (s.setMode m).fb = s.fb := by simp [State.setMode]
@[simp] theorem State.setMode_text (m : PpuMode) : (s.setMode m).text = s.text := by simp [State.setMode]
@[simp] theorem State.setMode_frames (m : PpuMode) : (s.setMode m).frames = s.frames := by simp [State.setMode]

/-! #### setLine -/

@[simp] theorem State.setLine_a (y : Nat) : (s.setLine y).a = s.a := by simp [State.setLine]
@[simp] theorem State.setLine_f (y : Nat) : (s.setLine y).f = s.f := by simp [State.setLine]
@[simp] theorem State.setLine_b (y : Nat) : (s.setLine y).b = s.b := by simp [State.setLine]
@[simp] theorem State.setLine_c (y : Nat) : (s.setLine y).c = s.c := by simp [State.setLine]
@[simp] theorem State.setLine_d (y : Nat) : (s.setLine y).d = s.d := by simp [State.setLine]
@[simp] theorem State.setLine_e (y : Nat) : (s.setLine y).e = s.e := by simp [State.setLine]
@[simp] theorem State.setLine_h (y : Nat) : (s.setLine y).h = s.h := by simp [State.setLine]
@[simp] theorem State.setLine_l (y : Nat) : (s.setLine y).l = s.l := by simp [State.setLine]
@[simp] theorem State.setLine_sp (y : Nat) : (s.setLine y).sp = s.sp := by simp [State.setLine]
@[simp] theorem State.setLine_pc (y : Nat) : (s.setLine y).pc = s.pc := by simp [State.setLine]
@[simp] theorem State.setLine_stopped (y : Nat) : (s.setLine y).stopped = s.stopped := by simp [State.setLine]
@[simp] theorem State.setLine_halted (y : Nat) : (s.setLine y).halted = s.halted := by simp [State.setLine]
@[simp] theorem State.setLine_ppuMode (y : Nat) : (s.setLine y).ppuMode = s.ppuMode := by simp [State.setLine]
@[simp] theorem State.setLine_ppuAcc (y : Nat) : (s.setLine y).ppuAcc = s.ppuAcc := by simp [State.setLine]
@[simp] theorem State.setLine_fb (y : Nat) : (s.setLine y).fb = s.fb := by simp [State.setLine]
@[simp] theorem State.setLine_text (y : Nat) : (s.setLine y).text = s.text := by simp [State.setLine]
@[simp] theorem State.setLine_frames (y : Nat) : (s.setLine y).frames = s.frames := by simp [State.setLine]

/-! #### emitFrame -/

@[simp] theorem State.emitFrame_a : s.emitFrame.a = s.a := rfl
@[simp] theorem State.emitFrame_f : s.emitFrame.f = s.f := rfl
@[simp] theorem State.emitFrame_b : s.emitFrame.b = s.b := rfl
@[simp] theorem State.emitFrame_c : s.emitFrame.c = s.c := rfl
@[simp] theorem State.emitFrame_d : s.emitFrame.d = s.d := rfl
@[simp] theorem State.emitFrame_e : s.emitFrame.e = s.e := rfl
@[simp] theorem State.emitFrame_h : s.emitFrame.h = s.h := rfl
@[simp] theorem State.emitFrame_l : s.emitFrame.l = s.l := rfl
@[simp] theorem State.emitFrame_sp : s.emitFrame.sp = s.sp := rfl
@[simp] theorem State.emitFrame_pc : s.emitFrame.pc = s.pc := rfl
@[simp] theorem State.emitFrame_stopped : s.emitFrame.stopped = s.stopped := rfl
@[simp] theorem State.emitFrame_halted : s.emitFrame.halted = s.halted := rfl
@[simp] theorem State.emitFrame_ppuLine : s.emitFrame.ppuLine = s.ppuLine := rfl
@[simp] theorem State.emitFrame_ppuMode : s.emitFrame.ppuMode = s.ppuMode := rfl
@[simp] theorem State.emitFrame_ppuAcc : s.emitFrame.ppuAcc = s.ppuAcc := rfl
@[simp] theorem State.emitFrame_fb : s.emitFrame.fb = s.fb := rfl
@[simp] theorem State.emitFrame_mem : s.emitFrame.mem = s.mem := rfl
@[simp] theorem State.emitFrame_text : s.emitFrame.text = s.text := rfl

/-! #### What a write leaves in the field it writes -/

@[simp] theorem State.setFlags_f (g : Flags) : (s.setFlags g).f = g.toByte := rfl
@[simp] theorem State.jump_pc (w : Word) : (s.jump w).pc = w := rfl
@[simp] theorem State.advance_pc (n : Nat) : (s.advance n).pc = s.pc + BitVec.ofNat 16 n := rfl
@[simp] theorem State.setMode_ppuMode (m : PpuMode) : (s.setMode m).ppuMode = m := by simp [State.setMode]
@[simp] theorem State.setLine_ppuLine (y : Nat) : (s.setLine y).ppuLine = y := by simp [State.setLine]

/-! #### Reading registers and pairs after a write -/

@[simp] theorem State.reg_setReg (r r' : Reg8) (v : Byte) :
    (s.setReg r v).reg r' = if r' = r then v else s.reg r' := by
  cases r <;> cases r' <;> rfl

@[simp] theorem State.reg_setFlags (g : Flags) (r : Reg8) : (s.setFlags g).reg r = s.reg r := by cases r <;> rfl
@[simp] theorem State.reg_jump (w : Word) (r : Reg8) : (s.jump w).reg r = s.reg r := by cases r <;> rfl
@[simp] theorem State.reg_advance (n : Nat) (r : Reg8) : (s.advance n).reg r = s.reg r := by cases r <;> rfl
@[simp] theorem State.reg_poke (x : Word) (v : Byte) (r : Reg8) : (s.poke x v).reg r = s.reg r := by
  cases r <;> simp [State.reg]

@[simp] theorem State.hl_setFlags (g : Flags) : (s.setFlags g).hl = s.hl := rfl
@[simp] theorem State.hl_jump (w : Word) : (s.jump w).hl = s.hl := rfl
@[simp] theorem State.hl_advance (n : Nat) : (s.advance n).hl = s.hl := rfl
@[simp] theorem State.hl_poke (x : Word) (v : Byte) : (s.poke x v).hl = s.hl := by simp [State.hl]

/-! #### Reading memory after a write to something else -/

@[simp] theorem State.peek_setReg (r : Reg8) (v : Byte) (x : Word) : (s.setReg r v).peek x = s.peek x := by
  simp [State.peek]
@[simp] theorem State.peek_setPair (p : Pair) (w x : Word) : (s.setPair p w).peek x = s.peek x := by
  simp [State.peek]
@[simp] theorem State.peek_setStackPair (q : StackPair) (w x : Word) : (s.setStackPair q w).peek x = s.peek x := by
  simp [State.peek]
@[simp] theorem State.peek_setFlags (g : Flags) (x : Word) : (s.setFlags g).peek x = s.peek x := rfl
@[simp] theorem State.peek_jump (w x : Word) : (s.jump w).peek x = s.peek x := rfl
@[simp] theorem State.peek_advance (n : Nat) (x : Word) : (s.advance n).peek x = s.peek x := rfl
@[simp] theorem State.peek_accAfter (m : AccAddr) (x : Word) : (s.accAfter m).peek x = s.peek x := by
  simp [State.peek]
@[simp] theorem State.peek_alu (o : AluOp) (v : Byte) (x : Word) : (s.alu o v).peek x = s.peek x := by
  simp [State.peek]

/-! #### Words and their bytes -/

/-- The two bytes of a word put back together are the word. -/
@[simp] theorem joinBytes_hi_lo (w : Word) : joinBytes (hiByte w) (loByte w) = w := by
  apply BitVec.eq_of_toNat_eq
  have h := w.isLt
  simp only [joinBytes, hiByte, loByte, BitVec.toNat_append, BitVec.extractLsb'_toNat, Nat.shiftRight_zero]
  rw [← Nat.shiftLeft_add_eq_or_of_lt (Nat.mod_lt _ (by decide)), Nat.shiftLeft_eq, Nat.shiftRight_eq_div_pow]
  omega

/-- The number a word of two bytes stands for. -/
theorem joinBytes_toNat (hi lo : Byte) : (joinBytes hi lo).toNat = 256 * hi.toNat + lo.toNat := by
  simp only [joinBytes, BitVec.toNat_append]
  rw [← Nat.shiftLeft_add_eq_or_of_lt lo.isLt, Nat.shiftLeft_eq]
  omega

@[simp] theorem hiByte_joinBytes (hi lo : Byte) : hiByte (joinBytes hi lo) = hi := by
  apply BitVec.eq_of_toNat_eq
  have h := hi.isLt
  have l := lo.isLt
  simp only [hiByte, BitVec.extractLsb'_toNat, joinBytes_toNat, Nat.shiftRight_eq_div_pow]
  omega

@[simp] theorem loByte_joinBytes (hi lo : Byte) : loByte (joinBytes hi lo) = lo := by
  apply BitVec.eq_of_toNat_eq
  have h := hi.isLt
  have l := lo.isLt
  simp only [loByte, BitVec.extractLsb'_toNat, joinBytes_toNat, Nat.shiftRight_zero]
  omega

@[simp] theorem State.bc_setBC (w : Word) : (s.setBC w).bc = w := by simp [State.bc, State.setBC]
@[simp] theorem State.de_setDE (w : Word) : (s.setDE w).de = w := by simp [State.de, State.setDE]
@[simp] theorem State.hl_setHL (w : Word) : (s.setHL w).hl = w := by simp [State.hl, State.setHL]

@[simp] theorem State.pair_setPair (p : Pair) (w : Word) : (s.setPair p w).pair p = w := by
  cases p <;> simp [State.pair, State.setPair]

/-! #### The four bits of the flags cell (R25, R26) -/

@[simp] theorem State.flagZ_setFlags (g : Flags) : (s.setFlags g).flagZ = g.z := by
  rcases g with ⟨z, n, h, c⟩; revert z n h c; simp only [State.flagZ, State.setFlags_f]; decide
@[simp] theorem State.flagN_setFlags (g : Flags) : (s.setFlags g).flagN = g.n := by
  rcases g with ⟨z, n, h, c⟩; revert z n h c; simp only [State.flagN, State.setFlags_f]; decide
@[simp] theorem State.flagH_setFlags (g : Flags) : (s.setFlags g).flagH = g.h := by
  rcases g with ⟨z, n, h, c⟩; revert z n h c; simp only [State.flagH, State.setFlags_f]; decide
@[simp] theorem State.flagC_setFlags (g : Flags) : (s.setFlags g).flagC = g.c := by
  rcases g with ⟨z, n, h, c⟩; revert z n h c; simp only [State.flagC, State.setFlags_f]; decide

/-- Whatever flags are written, the low nibble is zero (R26). -/
@[simp] theorem Flags.toByte_lowNibble (g : Flags) : g.toByte &&& 0x0F = 0 := by
  rcases g with ⟨z, n, h, c⟩; revert z n h c; decide

end Sys2Proof.Machine
end

