-- ==== Sys2Proof/Laws/Bus.lean ====
section
/-!
SUPPORT. What the bus, the stack and the fetch do, once each: a later proof cites these and unfolds none of them
(20_memory.md rules R60 to R64, 41_load16_stack.md rules R150 and R151, 30_encoding.md rule R93).
-/

namespace Sys2Proof.Machine

/-! ### Results that may be faults -/

@[simp] theorem except_bind_ok {α β : Type} (a : α) (f : α → Except Fault β) :
    ((Except.ok a : Except Fault α) >>= f) = f a := rfl

@[simp] theorem except_bind_error {α β : Type} (e : Fault) (f : α → Except Fault β) :
    ((Except.error e : Except Fault α) >>= f) = Except.error e := rfl

@[simp] theorem except_pure {α : Type} (a : α) : (pure a : Except Fault α) = Except.ok a := rfl

@[simp] theorem outcome_ok (s : State) : outcome (.ok s) = .next s := rfl

@[simp] theorem outcome_error (r : Fault) : outcome (.error r) = .fault r := rfl

theorem except_bind_eq_ok {α β : Type} {x : Except Fault α} {f : α → Except Fault β} {b : β}
    (h : x >>= f = .ok b) : ∃ a, x = .ok a ∧ f a = .ok b := by
  cases x with
  | ok a => exact ⟨a, rfl, h⟩
  | error e => cases h

theorem except_bind_eq_error {α β : Type} {x : Except Fault α} {f : α → Except Fault β} {e : Fault}
    (h : x >>= f = .error e) : x = .error e ∨ ∃ a, x = .ok a ∧ f a = .error e := by
  cases x with
  | ok a => exact .inr ⟨a, rfl, h⟩
  | error e' => cases h; exact .inl rfl

theorem outcome_eq_next {x : Except Fault State} {t : State} : outcome x = .next t ↔ x = .ok t := by
  cases x <;> simp [outcome]

theorem outcome_eq_fault {x : Except Fault State} {r : Fault} : outcome x = .fault r ↔ x = .error r := by
  cases x <;> simp [outcome]

theorem outcome_ne_refused (x : Except Fault State) (r : Refusal) : outcome x ≠ .refused r := by
  cases x <;> simp [outcome]

/-! ### Addresses -/

theorem resolve_isSome {a : Word} : (∃ p, resolve a = some p) ↔ Mapped a := by
  simp only [resolve, Mapped]
  split
  · exact ⟨fun _ => by omega, fun _ => ⟨_, rfl⟩⟩
  · split
    · exact ⟨fun h => (Option.some_ne_none _ h.choose_spec.symm).elim, fun _ => by omega⟩
    · exact ⟨fun _ => by omega, fun _ => ⟨_, rfl⟩⟩

theorem resolve_eq_none {a : Word} : resolve a = none ↔ ¬Mapped a := by
  rw [← resolve_isSome]; cases resolve a <;> simp

theorem resolve_of_mapped {a : Word} (h : Mapped a) : ∃ p, resolve a = some p := resolve_isSome.2 h

/-- What `resolve` answers, by range (R60). -/
theorem resolve_cases {a : Word} {p : Nat} (h : resolve a = some p) :
    Mapped a ∧ isBacking p = true ∧ (isRom p = true ↔ a.toNat ≤ 0x7FFF) ∧
      (p = a.toNat ∨ (0xE000 ≤ a.toNat ∧ a.toNat ≤ 0xFDFF ∧ p = a.toNat - 0x2000)) := by
  have ha := a.isLt
  simp only [isBacking, isRom, Bool.or_eq_true, Bool.and_eq_true, decide_eq_true_eq]
  simp only [resolve] at h
  split at h
  · have := Option.some.inj h; omega
  · split at h
    · exact (Option.some_ne_none _ h.symm).elim
    · have := Option.some.inj h; omega

theorem resolve_ne_succ {a : Word} (h : Mapped a) : resolve a ≠ resolve (a + 1) := by
  obtain ⟨p, hp⟩ := resolve_of_mapped h
  intro he
  rw [hp] at he
  have h1 := resolve_cases hp
  have h2 := resolve_cases he.symm
  have : (a + 1).toNat = (a.toNat + 1) % 65536 := by simp [BitVec.toNat_add]
  have := a.isLt
  omega

/-! ### Reading and writing one byte -/

theorem State.peek_eq {s : State} {a : Word} {p : Nat} (h : resolve a = some p) : s.peek a = s.mem.get p := by
  simp [State.peek, h]

theorem State.peek_congr {s t : State} (h : t.mem = s.mem) (a : Word) : t.peek a = s.peek a := by
  simp [State.peek, h]

theorem State.peek_of_resolve_eq {s : State} {x a : Word} (h : resolve x = resolve a) : s.peek x = s.peek a := by
  simp [State.peek, h]

theorem State.readByte_mapped {s : State} {a : Word} (h : Mapped a) : s.readByte a = .ok (s.peek a) := by
  obtain ⟨p, hp⟩ := resolve_of_mapped h
  simp [State.readByte, hp]

theorem State.readByte_unmapped {s : State} {a : Word} (h : ¬Mapped a) :
    s.readByte a = .error (.unmappedAddress a s) := by
  simp [State.readByte, resolve_eq_none.2 h, raise]

theorem State.writeByte_mapped {s : State} {a : Word} (h : Mapped a) (v : Byte) :
    s.writeByte a v = .ok (s.poke a v) := by
  obtain ⟨p, hp⟩ := resolve_of_mapped h
  simp [State.writeByte, hp]

theorem State.writeByte_unmapped {s : State} {a : Word} (h : ¬Mapped a) (v : Byte) :
    s.writeByte a v = .error (.unmappedAddress a s) := by
  simp [State.writeByte, resolve_eq_none.2 h, raise]

/-- All that a write may change: the memory. -/
theorem State.poke_eq (s : State) (a : Word) (v : Byte) : s.poke a v = { s with mem := (s.poke a v).mem } := by
  unfold State.poke
  split
  · split <;> rfl
  · rfl

theorem State.poke_mem {s : State} {a : Word} {p : Nat} (h : resolve a = some p) (v : Byte) :
    (s.poke a v).mem = if isRom p then s.mem else s.mem.put p v := by
  unfold State.poke
  rw [h]
  simp only
  split <;> rfl

/-- What every address reads as after a write (R53, R54, R62). -/
theorem State.peek_poke (s : State) (a x : Word) (v : Byte) :
    (s.poke a v).peek x = if resolve x = resolve a ∧ Mapped a ∧ ¬a.toNat ≤ 0x7FFF then v else s.peek x := by
  by_cases hm : Mapped a
  · obtain ⟨p, hp⟩ := resolve_of_mapped hm
    have hc := resolve_cases hp
    rcases hx : resolve x with _ | q
    · simp [State.peek, hx, hp]
    · rw [State.peek_eq hx, State.peek_eq hx, State.poke_mem hp]
      by_cases hr : isRom p = true
      · have := hc.2.2.1.1 hr
        simp [hr, this]
      · have : ¬a.toNat ≤ 0x7FFF := fun h => hr (hc.2.2.1.2 h)
        simp only [hr, Bool.false_eq_true, if_false, Memory.get_put, hp, Option.some.injEq, hm, this,
          not_false_eq_true, and_true]
  · simp [State.poke, resolve_eq_none.2 hm, hm]

theorem State.stored_poke (s : State) {a : Word} (h : Mapped a) (v : Byte) : Stored s (s.poke a v) a v := by
  refine ⟨fun x hx => ?_, fun x hx => ?_⟩
  · rw [State.peek_poke]
    by_cases hr : a.toNat ≤ 0x7FFF
    · simp [hr]
    · simp [hr, hx, h]
  · rw [State.peek_poke]; simp [hx]

/-- Two writes to different bytes, the second leaving the first. -/
theorem State.stored_poke_poke (s : State) {a b : Word} (h : Mapped a) (h' : Mapped b)
    (hne : resolve a ≠ resolve b) (v w : Byte) (x : Word) :
    ((s.poke a v).poke b w).peek x =
      if resolve x = resolve a then (if a.toNat ≤ 0x7FFF then s.peek x else v)
      else if resolve x = resolve b then (if b.toNat ≤ 0x7FFF then s.peek x else w)
      else s.peek x := by
  simp only [State.peek_poke, h, h', true_and]
  by_cases ha : resolve x = resolve a
  · rw [ha, if_neg (fun hc => hne hc.1), if_pos rfl]
    by_cases hr : a.toNat ≤ 0x7FFF
    · rw [if_neg (fun hc => hc.2 hr), if_pos hr]
    · rw [if_pos ⟨rfl, hr⟩, if_neg hr]
  · rw [if_neg ha, if_neg (c := resolve x = resolve a ∧ _) (fun hc => ha hc.1)]
    by_cases hb : resolve x = resolve b
    · rw [if_pos hb]
      by_cases hr : b.toNat ≤ 0x7FFF
      · rw [if_neg (fun hc => hc.2 hr), if_pos hr]
      · rw [if_pos ⟨hb, hr⟩, if_neg hr]
    · rw [if_neg hb, if_neg (fun hc => hb hc.1)]

/-- Two writes at neighbouring addresses store the two bytes, in either order. -/
theorem State.storedWord_poke (s : State) {a b : Word} (hb : b = a + 1) (h : Mapped a) (h' : Mapped b) (w : Word) :
    StoredWord s ((s.poke a (loByte w)).poke b (hiByte w)) a w ∧
      StoredWord s ((s.poke b (hiByte w)).poke a (loByte w)) a w := by
  have hne : resolve a ≠ resolve b := hb ▸ resolve_ne_succ h
  unfold StoredWord
  rw [← hb]
  refine ⟨⟨fun x hx => ?_, fun x hx => ?_, fun x hx hx' => ?_⟩, ⟨fun x hx => ?_, fun x hx => ?_, fun x hx hx' => ?_⟩⟩
  · rw [State.stored_poke_poke s h h' hne, if_pos hx]
  · rw [State.stored_poke_poke s h h' hne, if_neg (fun hc => hne (hc.symm.trans hx)), if_pos hx]
  · rw [State.stored_poke_poke s h h' hne, if_neg hx, if_neg hx']
  · rw [State.stored_poke_poke s h' h hne.symm, if_neg (fun hc => hne (hx.symm.trans hc)), if_pos hx]
  · rw [State.stored_poke_poke s h' h hne.symm, if_pos hx]
  · rw [State.stored_poke_poke s h' h hne.symm, if_neg hx', if_neg hx]

/-- A write keeps the memory invariant (R58). -/
theorem State.memInv_poke {s : State} (h : s.MemInv) (a : Word) (v : Byte) : (s.poke a v).MemInv := by
  rcases hp : resolve a with _ | p
  · simpa [State.poke, hp] using h
  · have hc := resolve_cases hp
    show (s.poke a v).mem.wf ∧ (s.poke a v).mem.backed
    rw [State.poke_mem hp]
    split
    · exact h
    · exact ⟨Memory.wf_put h.1 p v, Memory.backed_put h.2 hc.2.1 v⟩

/-- No write reaches ROM (R53). -/
theorem State.peek_poke_rom (s : State) (a x : Word) (v : Byte) (hx : x.toNat ≤ 0x7FFF) :
    (s.poke a v).peek x = s.peek x := by
  rw [State.peek_poke]
  split
  · rename_i h
    obtain ⟨hr, hm, hn⟩ := h
    obtain ⟨p, hp⟩ := resolve_of_mapped hm
    have h1 := resolve_cases hp
    have h2 := resolve_cases (hr.trans hp)
    exact absurd (h1.2.2.1.1 (h2.2.2.1.2 hx)) hn
  · rfl

/-! ### Words and the stack -/

theorem State.readWord_mapped {s : State} {a : Word} (h : Mapped a) (h' : Mapped (a + 1)) :
    s.readWord a = .ok (joinBytes (s.peek (a + 1)) (s.peek a)) := by
  simp only [State.readWord, State.readByte_mapped h, State.readByte_mapped h', except_bind_ok, except_pure]

theorem State.writeWord_mapped {s : State} {a : Word} (h : Mapped a) (h' : Mapped (a + 1)) (w : Word) :
    s.writeWord a w = .ok ((s.poke a (loByte w)).poke (a + 1) (hiByte w)) := by
  simp only [State.writeWord, State.writeByte_mapped h, State.writeByte_mapped h', except_bind_ok]

/-- Changing SP, then memory at an address that does not depend on it, in either order. -/
theorem State.poke_setSP (s : State) (w a : Word) (v : Byte) :
    State.poke { s with sp := w } a v = { s.poke a v with sp := w } := by
  unfold State.poke
  split
  · split <;> rfl
  · rfl

theorem State.push16_mapped {s : State} (h : Mapped (s.sp - 1)) (h' : Mapped (s.sp - 1 - 1)) (w : Word) :
    s.push16 w =
      .ok { (s.poke (s.sp - 1) (hiByte w)).poke (s.sp - 1 - 1) (loByte w) with sp := s.sp - 1 - 1 } := by
  simp only [State.push16]
  rw [State.writeByte_mapped h, except_bind_ok, State.poke_setSP]
  dsimp only
  rw [State.writeByte_mapped h', State.poke_setSP]

theorem State.pop16_mapped {s : State} (h : Mapped s.sp) (h' : Mapped (s.sp + 1)) :
    s.pop16 = .ok (joinBytes (s.peek (s.sp + 1)) (s.peek s.sp), { s with sp := s.sp + 1 + 1 }) := by
  simp only [State.pop16, State.readByte_mapped h, except_bind_ok]
  rw [State.readByte_mapped h', except_bind_ok]
  rfl

/-! ### The fetch -/

/-- The fetch reads the bytes of the instruction in ascending order, and reports the first unmapped one (R93, R378). -/
theorem State.fetch_eq (s : State) (len : StopLength) :
    s.fetch len =
      if Mapped s.pc then
        if 2 ≤ fetchLength (s.peek s.pc) ∧ ¬Mapped (s.pc + 1) then .error (.unmappedAddress (s.pc + 1) s)
        else if 3 ≤ fetchLength (s.peek s.pc) ∧ ¬Mapped (s.pc + 2) then .error (.unmappedAddress (s.pc + 2) s)
        else .ok (decodeBytes len (s.peek s.pc)
          (if 2 ≤ fetchLength (s.peek s.pc) then s.peek (s.pc + 1) else 0)
          (if 3 ≤ fetchLength (s.peek s.pc) then s.peek (s.pc + 2) else 0))
      else .error (.unmappedAddress s.pc s) := by
  unfold State.fetch
  by_cases h0 : Mapped s.pc
  · rw [State.readByte_mapped h0]
    simp only [except_bind_ok, if_pos h0]
    by_cases h2 : 2 ≤ fetchLength (s.peek s.pc)
    · by_cases h1 : Mapped (s.pc + 1)
      · simp only [h2, h1, State.readByte_mapped h1, if_true, except_bind_ok, not_true_eq_false, and_false, if_false]
        by_cases h3 : 3 ≤ fetchLength (s.peek s.pc)
        · by_cases h4 : Mapped (s.pc + 2)
          · simp only [h3, h4, State.readByte_mapped h4, if_true, except_bind_ok, not_true_eq_false, and_false,
              if_false, except_pure]
          · simp only [h3, h4, State.readByte_unmapped h4, if_true, except_bind_error, not_false_eq_true, and_self]
        · simp only [h3, if_false, false_and, except_pure]
      · simp only [h2, h1, State.readByte_unmapped h1, if_true, except_bind_error, not_false_eq_true, and_self]
    · have h3 : ¬3 ≤ fetchLength (s.peek s.pc) := by omega
      simp only [h2, h3, if_false, false_and, except_pure]
  · rw [State.readByte_unmapped h0, if_neg h0]; rfl

end Sys2Proof.Machine
end

