-- ==== Sys2Proof/Laws/Decode.lean ====
section
/-!
SUPPORT. What the first byte of an instruction decides (30_encoding.md rules R91 to R93).
-/

namespace Sys2Proof.Machine

/-- An instruction has one, two or three bytes (R91). -/
theorem instrLength_cases (len : StopLength) (op : Byte) :
    instrLength len op = 1 ∨ instrLength len op = 2 ∨ instrLength len op = 3 := by
  have : ∀ op : Byte, instrLength len op = 1 ∨ instrLength len op = 2 ∨ instrLength len op = 3 := by
    cases len <;> decide
  exact this op

/-- The fetch reads at least the opcode byte, and never more than the instruction. -/
theorem fetchLength_bounds (len : StopLength) (op : Byte) :
    1 ≤ fetchLength op ∧ fetchLength op ≤ instrLength len op := by
  have : ∀ op : Byte, 1 ≤ fetchLength op ∧ fetchLength op ≤ instrLength len op := by cases len <;> decide
  exact this op

/-- Only the bytes that are fetched decide the instruction (R92, R93). -/
theorem decodeBytes_congr (len : StopLength) {op b1 b2 c1 c2 : Byte} (h1 : 2 ≤ fetchLength op → b1 = c1)
    (h2 : 3 ≤ fetchLength op → b2 = c2) : decodeBytes len op b1 b2 = decodeBytes len op c1 c2 := by
  obtain ⟨k, hk, rfl⟩ : ∃ k, k < 256 ∧ op = BitVec.ofNat 8 k := ⟨op.toNat, op.isLt, by simp⟩
  revert h1 h2
  interval_cases k <;> first
    | exact fun _ _ => rfl
    | exact fun h _ => by rw [h (by decide)]; rfl
    | exact fun h h' => by rw [h (by decide), h' (by decide)]

end Sys2Proof.Machine
end

