-- ==== Sys2Proof/Laws/Families.lean ====
section
/-!
SUPPORT. The families of the instruction set: each family's meaning as one shared operation, and every instruction as a
member of one family. A proof about all instructions goes through `instr_families`, one case for each family.
-/

namespace Sys2Proof.Machine

theorem exec_stopOf (len : StopLength) (s : State) : exec (.stopOf len) s = stopOp len s := by
  cases len <;> rfl

theorem exec_ldRegReg (dst src : Reg8) (s : State) : exec (.ldRegReg dst src) s = loadRegReg dst src s := by
  cases dst <;> cases src <;> rfl

theorem exec_ldRegHL (dst : Reg8) (s : State) : exec (.ldRegHL dst) s = loadRegHL dst s := by
  cases dst <;> rfl

theorem exec_ldHLReg (src : Reg8) (s : State) : exec (.ldHLReg src) s = storeHLReg src s := by
  cases src <;> rfl

theorem exec_ldImm (x : Operand8) (n : Byte) (s : State) : exec (.ldImm x n) s = loadImm x n s := by
  rcases x with (_ | _ | _ | _ | _ | _ | _) | _ <;> rfl

theorem exec_ldAccFrom (m : AccAddr) (s : State) : exec (.ldAccFrom m) s = loadAcc m s := by
  cases m <;> rfl

theorem exec_ldAccTo (m : AccAddr) (s : State) : exec (.ldAccTo m) s = storeAcc m s := by
  cases m <;> rfl

theorem exec_ldPairImm (p : Pair) (nn : Word) (s : State) : exec (.ldPairImm p nn) s = loadPairImm p nn s := by
  cases p <;> rfl

theorem exec_push (q : StackPair) (s : State) : exec (.push q) s = pushPair q s := by
  cases q <;> rfl

theorem exec_pop (q : StackPair) (s : State) : exec (.pop q) s = popPair q s := by
  cases q <;> rfl

theorem exec_alu (o : AluOp) (x : Operand8) (s : State) : exec (.alu o x) s = aluOperand o x s := by
  cases o <;> rcases x with (_ | _ | _ | _ | _ | _ | _) | _ <;> rfl

theorem exec_aluImm (o : AluOp) (n : Byte) (s : State) : exec (.aluImm o n) s = aluImmediate o n s := by
  cases o <;> rfl

theorem exec_inc8 (x : Operand8) (s : State) : exec (.inc8 x) s = incOperand x s := by
  rcases x with (_ | _ | _ | _ | _ | _ | _) | _ <;> rfl

theorem exec_dec8 (x : Operand8) (s : State) : exec (.dec8 x) s = decOperand x s := by
  rcases x with (_ | _ | _ | _ | _ | _ | _) | _ <;> rfl

theorem exec_incPair (p : Pair) (s : State) : exec (.incPair p) s = incPair p s := by
  cases p <;> rfl

theorem exec_decPair (p : Pair) (s : State) : exec (.decPair p) s = decPair p s := by
  cases p <;> rfl

theorem exec_addHLPair (p : Pair) (s : State) : exec (.addHLPair p) s = addHL p s := by
  cases p <;> rfl

theorem exec_shift (o : ShiftOp) (x : Operand8) (s : State) : exec (.shift o x) s = shiftOperand o x s := by
  cases o <;> rcases x with (_ | _ | _ | _ | _ | _ | _) | _ <;> rfl

theorem exec_bit8 (k : Fin 8) (x : Operand8) (s : State) : exec (.bit8 k x) s = testBit k x s := by
  fin_cases k <;> rcases x with (_ | _ | _ | _ | _ | _ | _) | _ <;> rfl

theorem exec_res8 (k : Fin 8) (x : Operand8) (s : State) : exec (.res8 k x) s = clearBitOf k x s := by
  fin_cases k <;> rcases x with (_ | _ | _ | _ | _ | _ | _) | _ <;> rfl

theorem exec_set8 (k : Fin 8) (x : Operand8) (s : State) : exec (.set8 k x) s = setBitOf k x s := by
  fin_cases k <;> rcases x with (_ | _ | _ | _ | _ | _ | _) | _ <;> rfl

theorem exec_jpCond (cc : Cond) (nn : Word) (s : State) : exec (.jpCond cc nn) s = jumpIf cc nn s := by
  cases cc <;> rfl

theorem exec_jrCond (cc : Cond) (e : Byte) (s : State) : exec (.jrCond cc e) s = jumpRelativeIf cc e s := by
  cases cc <;> rfl

theorem exec_callCond (cc : Cond) (nn : Word) (s : State) : exec (.callCond cc nn) s = callIf cc nn s := by
  cases cc <;> rfl

theorem exec_retCond (cc : Cond) (s : State) : exec (.retCond cc) s = returnIf cc s := by
  cases cc <;> rfl

theorem exec_rst (k : Fin 8) (s : State) : exec (.rst k) s = restart k s := by
  fin_cases k <;> rfl

/-- Every instruction belongs to a family: what holds of each family holds of every instruction. -/
theorem instr_families {P : Instr → Prop}
    (h_stopOf : ∀ (len : StopLength), P (.stopOf len))
    (h_ldRegReg : ∀ (dst src : Reg8), P (.ldRegReg dst src))
    (h_ldRegHL : ∀ (dst : Reg8), P (.ldRegHL dst))
    (h_ldHLReg : ∀ (src : Reg8), P (.ldHLReg src))
    (h_ldImm : ∀ (x : Operand8) (n : Byte), P (.ldImm x n))
    (h_ldAccFrom : ∀ (m : AccAddr), P (.ldAccFrom m))
    (h_ldAccTo : ∀ (m : AccAddr), P (.ldAccTo m))
    (h_ldPairImm : ∀ (p : Pair) (nn : Word), P (.ldPairImm p nn))
    (h_push : ∀ (q : StackPair), P (.push q))
    (h_pop : ∀ (q : StackPair), P (.pop q))
    (h_alu : ∀ (o : AluOp) (x : Operand8), P (.alu o x))
    (h_aluImm : ∀ (o : AluOp) (n : Byte), P (.aluImm o n))
    (h_inc8 : ∀ (x : Operand8), P (.inc8 x))
    (h_dec8 : ∀ (x : Operand8), P (.dec8 x))
    (h_incPair : ∀ (p : Pair), P (.incPair p))
    (h_decPair : ∀ (p : Pair), P (.decPair p))
    (h_addHLPair : ∀ (p : Pair), P (.addHLPair p))
    (h_shift : ∀ (o : ShiftOp) (x : Operand8), P (.shift o x))
    (h_bit8 : ∀ (k : Fin 8) (x : Operand8), P (.bit8 k x))
    (h_res8 : ∀ (k : Fin 8) (x : Operand8), P (.res8 k x))
    (h_set8 : ∀ (k : Fin 8) (x : Operand8), P (.set8 k x))
    (h_jpCond : ∀ (cc : Cond) (nn : Word), P (.jpCond cc nn))
    (h_jrCond : ∀ (cc : Cond) (e : Byte), P (.jrCond cc e))
    (h_callCond : ∀ (cc : Cond) (nn : Word), P (.callCond cc nn))
    (h_retCond : ∀ (cc : Cond), P (.retCond cc))
    (h_rst : ∀ (k : Fin 8), P (.rst k))
    (h_ld_atNn_sp : ∀ (nn : Word), P (.ld_atNn_sp nn))
    (h_ld_sp_hl : P .ld_sp_hl)
    (h_ld_hl_spPlusE : ∀ (e : Byte), P (.ld_hl_spPlusE e))
    (h_daa : P .daa)
    (h_cpl : P .cpl)
    (h_scf : P .scf)
    (h_ccf : P .ccf)
    (h_add_sp_e : ∀ (e : Byte), P (.add_sp_e e))
    (h_rlca : P .rlca)
    (h_rrca : P .rrca)
    (h_rla : P .rla)
    (h_rra : P .rra)
    (h_jp_nn : ∀ (nn : Word), P (.jp_nn nn))
    (h_jp_atHL : P .jp_atHL)
    (h_jr_e : ∀ (e : Byte), P (.jr_e e))
    (h_call_nn : ∀ (nn : Word), P (.call_nn nn))
    (h_ret : P .ret)
    (h_reti : P .reti)
    (h_nop : P .nop)
    (h_halt : P .halt)
    (h_di : P .di)
    (h_ei : P .ei)
    (h_illegal : ∀ (op : Byte), P (.illegal op))
    (i : Instr) : P i :=
  match i with
  | .ld_b_b => h_ldRegReg .b .b
  | .ld_b_c => h_ldRegReg .b .c
  | .ld_b_d => h_ldRegReg .b .d
  | .ld_b_e => h_ldRegReg .b .e
  | .ld_b_h => h_ldRegReg .b .h
  | .ld_b_l => h_ldRegReg .b .l
  | .ld_b_a => h_ldRegReg .b .a
  | .ld_c_b => h_ldRegReg .c .b
  | .ld_c_c => h_ldRegReg .c .c
  | .ld_c_d => h_ldRegReg .c .d
  | .ld_c_e => h_ldRegReg .c .e
  | .ld_c_h => h_ldRegReg .c .h
  | .ld_c_l => h_ldRegReg .c .l
  | .ld_c_a => h_ldRegReg .c .a
  | .ld_d_b => h_ldRegReg .d .b
  | .ld_d_c => h_ldRegReg .d .c
  | .ld_d_d => h_ldRegReg .d .d
  | .ld_d_e => h_ldRegReg .d .e
  | .ld_d_h => h_ldRegReg .d .h
  | .ld_d_l => h_ldRegReg .d .l
  | .ld_d_a => h_ldRegReg .d .a
  | .ld_e_b => h_ldRegReg .e .b
  | .ld_e_c => h_ldRegReg .e .c
  | .ld_e_d => h_ldRegReg .e .d
  | .ld_e_e => h_ldRegReg .e .e
  | .ld_e_h => h_ldRegReg .e .h
  | .ld_e_l => h_ldRegReg .e .l
  | .ld_e_a => h_ldRegReg .e .a
  | .ld_h_b => h_ldRegReg .h .b
  | .ld_h_c => h_ldRegReg .h .c
  | .ld_h_d => h_ldRegReg .h .d
  | .ld_h_e => h_ldRegReg .h .e
  | .ld_h_h => h_ldRegReg .h .h
  | .ld_h_l => h_ldRegReg .h .l
  | .ld_h_a => h_ldRegReg .h .a
  | .ld_l_b => h_ldRegReg .l .b
  | .ld_l_c => h_ldRegReg .l .c
  | .ld_l_d => h_ldRegReg .l .d
  | .ld_l_e => h_ldRegReg .l .e
  | .ld_l_h => h_ldRegReg .l .h
  | .ld_l_l => h_ldRegReg .l .l
  | .ld_l_a => h_ldRegReg .l .a
  | .ld_a_b => h_ldRegReg .a .b
  | .ld_a_c => h_ldRegReg .a .c
  | .ld_a_d => h_ldRegReg .a .d
  | .ld_a_e => h_ldRegReg .a .e
  | .ld_a_h => h_ldRegReg .a .h
  | .ld_a_l => h_ldRegReg .a .l
  | .ld_a_a => h_ldRegReg .a .a
  | .ld_b_atHL => h_ldRegHL .b
  | .ld_c_atHL => h_ldRegHL .c
  | .ld_d_atHL => h_ldRegHL .d
  | .ld_e_atHL => h_ldRegHL .e
  | .ld_h_atHL => h_ldRegHL .h
  | .ld_l_atHL => h_ldRegHL .l
  | .ld_a_atHL => h_ldRegHL .a
  | .ld_atHL_b => h_ldHLReg .b
  | .ld_atHL_c => h_ldHLReg .c
  | .ld_atHL_d => h_ldHLReg .d
  | .ld_atHL_e => h_ldHLReg .e
  | .ld_atHL_h => h_ldHLReg .h
  | .ld_atHL_l => h_ldHLReg .l
  | .ld_atHL_a => h_ldHLReg .a
  | .ld_b_n n => h_ldImm (.reg .b) n
  | .ld_c_n n => h_ldImm (.reg .c) n
  | .ld_d_n n => h_ldImm (.reg .d) n
  | .ld_e_n n => h_ldImm (.reg .e) n
  | .ld_h_n n => h_ldImm (.reg .h) n
  | .ld_l_n n => h_ldImm (.reg .l) n
  | .ld_atHL_n n => h_ldImm .atHL n
  | .ld_a_n n => h_ldImm (.reg .a) n
  | .ld_a_atBC => h_ldAccFrom .bc
  | .ld_a_atDE => h_ldAccFrom .de
  | .ld_a_atNn nn => h_ldAccFrom (.imm nn)
  | .ldh_a_atN n => h_ldAccFrom (.high n)
  | .ld_a_atC => h_ldAccFrom .highC
  | .ld_a_atHLinc => h_ldAccFrom .hlInc
  | .ld_a_atHLdec => h_ldAccFrom .hlDec
  | .ld_atBC_a => h_ldAccTo .bc
  | .ld_atDE_a => h_ldAccTo .de
  | .ld_atNn_a nn => h_ldAccTo (.imm nn)
  | .ldh_atN_a n => h_ldAccTo (.high n)
  | .ld_atC_a => h_ldAccTo .highC
  | .ld_atHLinc_a => h_ldAccTo .hlInc
  | .ld_atHLdec_a => h_ldAccTo .hlDec
  | .ld_bc_nn nn => h_ldPairImm .bc nn
  | .ld_de_nn nn => h_ldPairImm .de nn
  | .ld_hl_nn nn => h_ldPairImm .hl nn
  | .ld_sp_nn nn => h_ldPairImm .sp nn
  | .ld_atNn_sp nn => h_ld_atNn_sp nn
  | .ld_sp_hl => h_ld_sp_hl
  | .ld_hl_spPlusE e => h_ld_hl_spPlusE e
  | .push_bc => h_push .bc
  | .push_de => h_push .de
  | .push_hl => h_push .hl
  | .push_af => h_push .af
  | .pop_bc => h_pop .bc
  | .pop_de => h_pop .de
  | .pop_hl => h_pop .hl
  | .pop_af => h_pop .af
  | .add_a_b => h_alu .add (.reg .b)
  | .add_a_c => h_alu .add (.reg .c)
  | .add_a_d => h_alu .add (.reg .d)
  | .add_a_e => h_alu .add (.reg .e)
  | .add_a_h => h_alu .add (.reg .h)
  | .add_a_l => h_alu .add (.reg .l)
  | .add_a_atHL => h_alu .add .atHL
  | .add_a_a => h_alu .add (.reg .a)
  | .adc_a_b => h_alu .adc (.reg .b)
  | .adc_a_c => h_alu .adc (.reg .c)
  | .adc_a_d => h_alu .adc (.reg .d)
  | .adc_a_e => h_alu .adc (.reg .e)
  | .adc_a_h => h_alu .adc (.reg .h)
  | .adc_a_l => h_alu .adc (.reg .l)
  | .adc_a_atHL => h_alu .adc .atHL
  | .adc_a_a => h_alu .adc (.reg .a)
  | .sub_b => h_alu .sub (.reg .b)
  | .sub_c => h_alu .sub (.reg .c)
  | .sub_d => h_alu .sub (.reg .d)
  | .sub_e => h_alu .sub (.reg .e)
  | .sub_h => h_alu .sub (.reg .h)
  | .sub_l => h_alu .sub (.reg .l)
  | .sub_atHL => h_alu .sub .atHL
  | .sub_a => h_alu .sub (.reg .a)
  | .sbc_a_b => h_alu .sbc (.reg .b)
  | .sbc_a_c => h_alu .sbc (.reg .c)
  | .sbc_a_d => h_alu .sbc (.reg .d)
  | .sbc_a_e => h_alu .sbc (.reg .e)
  | .sbc_a_h => h_alu .sbc (.reg .h)
  | .sbc_a_l => h_alu .sbc (.reg .l)
  | .sbc_a_atHL => h_alu .sbc .atHL
  | .sbc_a_a => h_alu .sbc (.reg .a)
  | .and_b => h_alu .and (.reg .b)
  | .and_c => h_alu .and (.reg .c)
  | .and_d => h_alu .and (.reg .d)
  | .and_e => h_alu .and (.reg .e)
  | .and_h => h_alu .and (.reg .h)
  | .and_l => h_alu .and (.reg .l)
  | .and_atHL => h_alu .and .atHL
  | .and_a => h_alu .and (.reg .a)
  | .xor_b => h_alu .xor (.reg .b)
  | .xor_c => h_alu .xor (.reg .c)
  | .xor_d => h_alu .xor (.reg .d)
  | .xor_e => h_alu .xor (.reg .e)
  | .xor_h => h_alu .xor (.reg .h)
  | .xor_l => h_alu .xor (.reg .l)
  | .xor_atHL => h_alu .xor .atHL
  | .xor_a => h_alu .xor (.reg .a)
  | .or_b => h_alu .or (.reg .b)
  | .or_c => h_alu .or (.reg .c)
  | .or_d => h_alu .or (.reg .d)
  | .or_e => h_alu .or (.reg .e)
  | .or_h => h_alu .or (.reg .h)
  | .or_l => h_alu .or (.reg .l)
  | .or_atHL => h_alu .or .atHL
  | .or_a => h_alu .or (.reg .a)
  | .cp_b => h_alu .cp (.reg .b)
  | .cp_c => h_alu .cp (.reg .c)
  | .cp_d => h_alu .cp (.reg .d)
  | .cp_e => h_alu .cp (.reg .e)
  | .cp_h => h_alu .cp (.reg .h)
  | .cp_l => h_alu .cp (.reg .l)
  | .cp_atHL => h_alu .cp .atHL
  | .cp_a => h_alu .cp (.reg .a)
  | .add_a_n n => h_aluImm .add n
  | .adc_a_n n => h_aluImm .adc n
  | .sub_n n => h_aluImm .sub n
  | .sbc_a_n n => h_aluImm .sbc n
  | .and_n n => h_aluImm .and n
  | .xor_n n => h_aluImm .xor n
  | .or_n n => h_aluImm .or n
  | .cp_n n => h_aluImm .cp n
  | .inc_b => h_inc8 (.reg .b)
  | .inc_c => h_inc8 (.reg .c)
  | .inc_d => h_inc8 (.reg .d)
  | .inc_e => h_inc8 (.reg .e)
  | .inc_h => h_inc8 (.reg .h)
  | .inc_l => h_inc8 (.reg .l)
  | .inc_atHL => h_inc8 .atHL
  | .inc_a => h_inc8 (.reg .a)
  | .dec_b => h_dec8 (.reg .b)
  | .dec_c => h_dec8 (.reg .c)
  | .dec_d => h_dec8 (.reg .d)
  | .dec_e => h_dec8 (.reg .e)
  | .dec_h => h_dec8 (.reg .h)
  | .dec_l => h_dec8 (.reg .l)
  | .dec_atHL => h_dec8 .atHL
  | .dec_a => h_dec8 (.reg .a)
  | .daa => h_daa
  | .cpl => h_cpl
  | .scf => h_scf
  | .ccf => h_ccf
  | .inc_bc => h_incPair .bc
  | .inc_de => h_incPair .de
  | .inc_hl => h_incPair .hl
  | .inc_sp => h_incPair .sp
  | .dec_bc => h_decPair .bc
  | .dec_de => h_decPair .de
  | .dec_hl => h_decPair .hl
  | .dec_sp => h_decPair .sp
  | .add_hl_bc => h_addHLPair .bc
  | .add_hl_de => h_addHLPair .de
  | .add_hl_hl => h_addHLPair .hl
  | .add_hl_sp => h_addHLPair .sp
  | .add_sp_e e => h_add_sp_e e
  | .rlca => h_rlca
  | .rrca => h_rrca
  | .rla => h_rla
  | .rra => h_rra
  | .rlc_b => h_shift .rlc (.reg .b)
  | .rlc_c => h_shift .rlc (.reg .c)
  | .rlc_d => h_shift .rlc (.reg .d)
  | .rlc_e => h_shift .rlc (.reg .e)
  | .rlc_h => h_shift .rlc (.reg .h)
  | .rlc_l => h_shift .rlc (.reg .l)
  | .rlc_atHL => h_shift .rlc .atHL
  | .rlc_a => h_shift .rlc (.reg .a)
  | .rrc_b => h_shift .rrc (.reg .b)
  | .rrc_c => h_shift .rrc (.reg .c)
  | .rrc_d => h_shift .rrc (.reg .d)
  | .rrc_e => h_shift .rrc (.reg .e)
  | .rrc_h => h_shift .rrc (.reg .h)
  | .rrc_l => h_shift .rrc (.reg .l)
  | .rrc_atHL => h_shift .rrc .atHL
  | .rrc_a => h_shift .rrc (.reg .a)
  | .rl_b => h_shift .rl (.reg .b)
  | .rl_c => h_shift .rl (.reg .c)
  | .rl_d => h_shift .rl (.reg .d)
  | .rl_e => h_shift .rl (.reg .e)
  | .rl_h => h_shift .rl (.reg .h)
  | .rl_l => h_shift .rl (.reg .l)
  | .rl_atHL => h_shift .rl .atHL
  | .rl_a => h_shift .rl (.reg .a)
  | .rr_b => h_shift .rr (.reg .b)
  | .rr_c => h_shift .rr (.reg .c)
  | .rr_d => h_shift .rr (.reg .d)
  | .rr_e => h_shift .rr (.reg .e)
  | .rr_h => h_shift .rr (.reg .h)
  | .rr_l => h_shift .rr (.reg .l)
  | .rr_atHL => h_shift .rr .atHL
  | .rr_a => h_shift .rr (.reg .a)
  | .sla_b => h_shift .sla (.reg .b)
  | .sla_c => h_shift .sla (.reg .c)
  | .sla_d => h_shift .sla (.reg .d)
  | .sla_e => h_shift .sla (.reg .e)
  | .sla_h => h_shift .sla (.reg .h)
  | .sla_l => h_shift .sla (.reg .l)
  | .sla_atHL => h_shift .sla .atHL
  | .sla_a => h_shift .sla (.reg .a)
  | .sra_b => h_shift .sra (.reg .b)
  | .sra_c => h_shift .sra (.reg .c)
  | .sra_d => h_shift .sra (.reg .d)
  | .sra_e => h_shift .sra (.reg .e)
  | .sra_h => h_shift .sra (.reg .h)
  | .sra_l => h_shift .sra (.reg .l)
  | .sra_atHL => h_shift .sra .atHL
  | .sra_a => h_shift .sra (.reg .a)
  | .swap_b => h_shift .swap (.reg .b)
  | .swap_c => h_shift .swap (.reg .c)
  | .swap_d => h_shift .swap (.reg .d)
  | .swap_e => h_shift .swap (.reg .e)
  | .swap_h => h_shift .swap (.reg .h)
  | .swap_l => h_shift .swap (.reg .l)
  | .swap_atHL => h_shift .swap .atHL
  | .swap_a => h_shift .swap (.reg .a)
  | .srl_b => h_shift .srl (.reg .b)
  | .srl_c => h_shift .srl (.reg .c)
  | .srl_d => h_shift .srl (.reg .d)
  | .srl_e => h_shift .srl (.reg .e)
  | .srl_h => h_shift .srl (.reg .h)
  | .srl_l => h_shift .srl (.reg .l)
  | .srl_atHL => h_shift .srl .atHL
  | .srl_a => h_shift .srl (.reg .a)
  | .bit_0_b => h_bit8 0 (.reg .b)
  | .bit_0_c => h_bit8 0 (.reg .c)
  | .bit_0_d => h_bit8 0 (.reg .d)
  | .bit_0_e => h_bit8 0 (.reg .e)
  | .bit_0_h => h_bit8 0 (.reg .h)
  | .bit_0_l => h_bit8 0 (.reg .l)
  | .bit_0_atHL => h_bit8 0 .atHL
  | .bit_0_a => h_bit8 0 (.reg .a)
  | .bit_1_b => h_bit8 1 (.reg .b)
  | .bit_1_c => h_bit8 1 (.reg .c)
  | .bit_1_d => h_bit8 1 (.reg .d)
  | .bit_1_e => h_bit8 1 (.reg .e)
  | .bit_1_h => h_bit8 1 (.reg .h)
  | .bit_1_l => h_bit8 1 (.reg .l)
  | .bit_1_atHL => h_bit8 1 .atHL
  | .bit_1_a => h_bit8 1 (.reg .a)
  | .bit_2_b => h_bit8 2 (.reg .b)
  | .bit_2_c => h_bit8 2 (.reg .c)
  | .bit_2_d => h_bit8 2 (.reg .d)
  | .bit_2_e => h_bit8 2 (.reg .e)
  | .bit_2_h => h_bit8 2 (.reg .h)
  | .bit_2_l => h_bit8 2 (.reg .l)
  | .bit_2_atHL => h_bit8 2 .atHL
  | .bit_2_a => h_bit8 2 (.reg .a)
  | .bit_3_b => h_bit8 3 (.reg .b)
  | .bit_3_c => h_bit8 3 (.reg .c)
  | .bit_3_d => h_bit8 3 (.reg .d)
  | .bit_3_e => h_bit8 3 (.reg .e)
  | .bit_3_h => h_bit8 3 (.reg .h)
  | .bit_3_l => h_bit8 3 (.reg .l)
  | .bit_3_atHL => h_bit8 3 .atHL
  | .bit_3_a => h_bit8 3 (.reg .a)
  | .bit_4_b => h_bit8 4 (.reg .b)
  | .bit_4_c => h_bit8 4 (.reg .c)
  | .bit_4_d => h_bit8 4 (.reg .d)
  | .bit_4_e => h_bit8 4 (.reg .e)
  | .bit_4_h => h_bit8 4 (.reg .h)
  | .bit_4_l => h_bit8 4 (.reg .l)
  | .bit_4_atHL => h_bit8 4 .atHL
  | .bit_4_a => h_bit8 4 (.reg .a)
  | .bit_5_b => h_bit8 5 (.reg .b)
  | .bit_5_c => h_bit8 5 (.reg .c)
  | .bit_5_d => h_bit8 5 (.reg .d)
  | .bit_5_e => h_bit8 5 (.reg .e)
  | .bit_5_h => h_bit8 5 (.reg .h)
  | .bit_5_l => h_bit8 5 (.reg .l)
  | .bit_5_atHL => h_bit8 5 .atHL
  | .bit_5_a => h_bit8 5 (.reg .a)
  | .bit_6_b => h_bit8 6 (.reg .b)
  | .bit_6_c => h_bit8 6 (.reg .c)
  | .bit_6_d => h_bit8 6 (.reg .d)
  | .bit_6_e => h_bit8 6 (.reg .e)
  | .bit_6_h => h_bit8 6 (.reg .h)
  | .bit_6_l => h_bit8 6 (.reg .l)
  | .bit_6_atHL => h_bit8 6 .atHL
  | .bit_6_a => h_bit8 6 (.reg .a)
  | .bit_7_b => h_bit8 7 (.reg .b)
  | .bit_7_c => h_bit8 7 (.reg .c)
  | .bit_7_d => h_bit8 7 (.reg .d)
  | .bit_7_e => h_bit8 7 (.reg .e)
  | .bit_7_h => h_bit8 7 (.reg .h)
  | .bit_7_l => h_bit8 7 (.reg .l)
  | .bit_7_atHL => h_bit8 7 .atHL
  | .bit_7_a => h_bit8 7 (.reg .a)
  | .res_0_b => h_res8 0 (.reg .b)
  | .res_0_c => h_res8 0 (.reg .c)
  | .res_0_d => h_res8 0 (.reg .d)
  | .res_0_e => h_res8 0 (.reg .e)
  | .res_0_h => h_res8 0 (.reg .h)
  | .res_0_l => h_res8 0 (.reg .l)
  | .res_0_atHL => h_res8 0 .atHL
  | .res_0_a => h_res8 0 (.reg .a)
  | .res_1_b => h_res8 1 (.reg .b)
  | .res_1_c => h_res8 1 (.reg .c)
  | .res_1_d => h_res8 1 (.reg .d)
  | .res_1_e => h_res8 1 (.reg .e)
  | .res_1_h => h_res8 1 (.reg .h)
  | .res_1_l => h_res8 1 (.reg .l)
  | .res_1_atHL => h_res8 1 .atHL
  | .res_1_a => h_res8 1 (.reg .a)
  | .res_2_b => h_res8 2 (.reg .b)
  | .res_2_c => h_res8 2 (.reg .c)
  | .res_2_d => h_res8 2 (.reg .d)
  | .res_2_e => h_res8 2 (.reg .e)
  | .res_2_h => h_res8 2 (.reg .h)
  | .res_2_l => h_res8 2 (.reg .l)
  | .res_2_atHL => h_res8 2 .atHL
  | .res_2_a => h_res8 2 (.reg .a)
  | .res_3_b => h_res8 3 (.reg .b)
  | .res_3_c => h_res8 3 (.reg .c)
  | .res_3_d => h_res8 3 (.reg .d)
  | .res_3_e => h_res8 3 (.reg .e)
  | .res_3_h => h_res8 3 (.reg .h)
  | .res_3_l => h_res8 3 (.reg .l)
  | .res_3_atHL => h_res8 3 .atHL
  | .res_3_a => h_res8 3 (.reg .a)
  | .res_4_b => h_res8 4 (.reg .b)
  | .res_4_c => h_res8 4 (.reg .c)
  | .res_4_d => h_res8 4 (.reg .d)
  | .res_4_e => h_res8 4 (.reg .e)
  | .res_4_h => h_res8 4 (.reg .h)
  | .res_4_l => h_res8 4 (.reg .l)
  | .res_4_atHL => h_res8 4 .atHL
  | .res_4_a => h_res8 4 (.reg .a)
  | .res_5_b => h_res8 5 (.reg .b)
  | .res_5_c => h_res8 5 (.reg .c)
  | .res_5_d => h_res8 5 (.reg .d)
  | .res_5_e => h_res8 5 (.reg .e)
  | .res_5_h => h_res8 5 (.reg .h)
  | .res_5_l => h_res8 5 (.reg .l)
  | .res_5_atHL => h_res8 5 .atHL
  | .res_5_a => h_res8 5 (.reg .a)
  | .res_6_b => h_res8 6 (.reg .b)
  | .res_6_c => h_res8 6 (.reg .c)
  | .res_6_d => h_res8 6 (.reg .d)
  | .res_6_e => h_res8 6 (.reg .e)
  | .res_6_h => h_res8 6 (.reg .h)
  | .res_6_l => h_res8 6 (.reg .l)
  | .res_6_atHL => h_res8 6 .atHL
  | .res_6_a => h_res8 6 (.reg .a)
  | .res_7_b => h_res8 7 (.reg .b)
  | .res_7_c => h_res8 7 (.reg .c)
  | .res_7_d => h_res8 7 (.reg .d)
  | .res_7_e => h_res8 7 (.reg .e)
  | .res_7_h => h_res8 7 (.reg .h)
  | .res_7_l => h_res8 7 (.reg .l)
  | .res_7_atHL => h_res8 7 .atHL
  | .res_7_a => h_res8 7 (.reg .a)
  | .set_0_b => h_set8 0 (.reg .b)
  | .set_0_c => h_set8 0 (.reg .c)
  | .set_0_d => h_set8 0 (.reg .d)
  | .set_0_e => h_set8 0 (.reg .e)
  | .set_0_h => h_set8 0 (.reg .h)
  | .set_0_l => h_set8 0 (.reg .l)
  | .set_0_atHL => h_set8 0 .atHL
  | .set_0_a => h_set8 0 (.reg .a)
  | .set_1_b => h_set8 1 (.reg .b)
  | .set_1_c => h_set8 1 (.reg .c)
  | .set_1_d => h_set8 1 (.reg .d)
  | .set_1_e => h_set8 1 (.reg .e)
  | .set_1_h => h_set8 1 (.reg .h)
  | .set_1_l => h_set8 1 (.reg .l)
  | .set_1_atHL => h_set8 1 .atHL
  | .set_1_a => h_set8 1 (.reg .a)
  | .set_2_b => h_set8 2 (.reg .b)
  | .set_2_c => h_set8 2 (.reg .c)
  | .set_2_d => h_set8 2 (.reg .d)
  | .set_2_e => h_set8 2 (.reg .e)
  | .set_2_h => h_set8 2 (.reg .h)
  | .set_2_l => h_set8 2 (.reg .l)
  | .set_2_atHL => h_set8 2 .atHL
  | .set_2_a => h_set8 2 (.reg .a)
  | .set_3_b => h_set8 3 (.reg .b)
  | .set_3_c => h_set8 3 (.reg .c)
  | .set_3_d => h_set8 3 (.reg .d)
  | .set_3_e => h_set8 3 (.reg .e)
  | .set_3_h => h_set8 3 (.reg .h)
  | .set_3_l => h_set8 3 (.reg .l)
  | .set_3_atHL => h_set8 3 .atHL
  | .set_3_a => h_set8 3 (.reg .a)
  | .set_4_b => h_set8 4 (.reg .b)
  | .set_4_c => h_set8 4 (.reg .c)
  | .set_4_d => h_set8 4 (.reg .d)
  | .set_4_e => h_set8 4 (.reg .e)
  | .set_4_h => h_set8 4 (.reg .h)
  | .set_4_l => h_set8 4 (.reg .l)
  | .set_4_atHL => h_set8 4 .atHL
  | .set_4_a => h_set8 4 (.reg .a)
  | .set_5_b => h_set8 5 (.reg .b)
  | .set_5_c => h_set8 5 (.reg .c)
  | .set_5_d => h_set8 5 (.reg .d)
  | .set_5_e => h_set8 5 (.reg .e)
  | .set_5_h => h_set8 5 (.reg .h)
  | .set_5_l => h_set8 5 (.reg .l)
  | .set_5_atHL => h_set8 5 .atHL
  | .set_5_a => h_set8 5 (.reg .a)
  | .set_6_b => h_set8 6 (.reg .b)
  | .set_6_c => h_set8 6 (.reg .c)
  | .set_6_d => h_set8 6 (.reg .d)
  | .set_6_e => h_set8 6 (.reg .e)
  | .set_6_h => h_set8 6 (.reg .h)
  | .set_6_l => h_set8 6 (.reg .l)
  | .set_6_atHL => h_set8 6 .atHL
  | .set_6_a => h_set8 6 (.reg .a)
  | .set_7_b => h_set8 7 (.reg .b)
  | .set_7_c => h_set8 7 (.reg .c)
  | .set_7_d => h_set8 7 (.reg .d)
  | .set_7_e => h_set8 7 (.reg .e)
  | .set_7_h => h_set8 7 (.reg .h)
  | .set_7_l => h_set8 7 (.reg .l)
  | .set_7_atHL => h_set8 7 .atHL
  | .set_7_a => h_set8 7 (.reg .a)
  | .jp_nn nn => h_jp_nn nn
  | .jp_atHL => h_jp_atHL
  | .jr_e e => h_jr_e e
  | .call_nn nn => h_call_nn nn
  | .ret => h_ret
  | .reti => h_reti
  | .jp_nz_nn nn => h_jpCond .nz nn
  | .jr_nz_e e => h_jrCond .nz e
  | .call_nz_nn nn => h_callCond .nz nn
  | .ret_nz => h_retCond .nz
  | .jp_z_nn nn => h_jpCond .z nn
  | .jr_z_e e => h_jrCond .z e
  | .call_z_nn nn => h_callCond .z nn
  | .ret_z => h_retCond .z
  | .jp_nc_nn nn => h_jpCond .nc nn
  | .jr_nc_e e => h_jrCond .nc e
  | .call_nc_nn nn => h_callCond .nc nn
  | .ret_nc => h_retCond .nc
  | .jp_c_nn nn => h_jpCond .c nn
  | .jr_c_e e => h_jrCond .c e
  | .call_c_nn nn => h_callCond .c nn
  | .ret_c => h_retCond .c
  | .rst_00 => h_rst 0
  | .rst_08 => h_rst 1
  | .rst_10 => h_rst 2
  | .rst_18 => h_rst 3
  | .rst_20 => h_rst 4
  | .rst_28 => h_rst 5
  | .rst_30 => h_rst 6
  | .rst_38 => h_rst 7
  | .nop => h_nop
  | .halt => h_halt
  | .stop => h_stopOf .two
  | .stopOneByte => h_stopOf .one
  | .di => h_di
  | .ei => h_ei
  | .illegal op => h_illegal op

end Sys2Proof.Machine
end

