-- ==== Sys2Proof/Laws/Exec.lean ====
section
/-!
SUPPORT. What any instruction can do, said once: a proof about every instruction goes through `exec_effect` and unfolds
no meaning (60_exceptions.md rules R371 to R373, 10_state.md rules R26, R28, R31, 20_memory.md rule R53).
-/

namespace Sys2Proof.Machine

/-! ### One access, one case split -/

theorem State.readByte_cases (s : State) (a : Word) :
    (Mapped a ∧ s.readByte a = .ok (s.peek a)) ∨ (¬Mapped a ∧ s.readByte a = .error (.unmappedAddress a s)) := by
  by_cases h : Mapped a
  · exact .inl ⟨h, State.readByte_mapped h⟩
  · exact .inr ⟨h, State.readByte_unmapped h⟩

theorem State.writeByte_cases (s : State) (a : Word) (v : Byte) :
    (Mapped a ∧ s.writeByte a v = .ok (s.poke a v)) ∨
      (¬Mapped a ∧ s.writeByte a v = .error (.unmappedAddress a s)) := by
  by_cases h : Mapped a
  · exact .inl ⟨h, State.writeByte_mapped h v⟩
  · exact .inr ⟨h, State.writeByte_unmapped h v⟩

/-! ### What an instruction may do -/

/-- What holds of every state an instruction leaves, or has reached when it faults. -/
structure Effect (s t : State) : Prop where
  ppuLine : t.ppuLine = s.ppuLine
  ppuMode : t.ppuMode = s.ppuMode
  ppuAcc : t.ppuAcc = s.ppuAcc
  fb : t.fb = s.fb
  text : t.text = s.text
  frames : t.frames = s.frames
  flags : s.FlagsInv → t.FlagsInv
  mem : s.MemInv → t.MemInv
  rom : ∀ x : Word, x.toNat ≤ 0x7FFF → t.peek x = s.peek x

theorem Effect.refl (s : State) : Effect s s := ⟨rfl, rfl, rfl, rfl, rfl, rfl, id, id, fun _ _ => rfl⟩

theorem Effect.trans {s t u : State} (h : Effect s t) (k : Effect t u) : Effect s u :=
  ⟨k.ppuLine.trans h.ppuLine, k.ppuMode.trans h.ppuMode, k.ppuAcc.trans h.ppuAcc, k.fb.trans h.fb,
    k.text.trans h.text, k.frames.trans h.frames, k.flags ∘ h.flags, k.mem ∘ h.mem,
    fun x hx => (k.rom x hx).trans (h.rom x hx)⟩

/-- An update of the processor's own fields that keeps the low nibble of F zero. -/
theorem Effect.cpu {s t : State} (h1 : t.ppuLine = s.ppuLine) (h2 : t.ppuMode = s.ppuMode) (h3 : t.ppuAcc = s.ppuAcc)
    (h4 : t.fb = s.fb) (h5 : t.text = s.text) (h6 : t.frames = s.frames) (h7 : s.FlagsInv → t.FlagsInv)
    (h8 : t.mem = s.mem) : Effect s t :=
  ⟨h1, h2, h3, h4, h5, h6, h7, fun h => ⟨h8 ▸ h.1, h8 ▸ h.2⟩, fun x _ => State.peek_congr h8 x⟩

theorem Effect.poke (s : State) (a : Word) (v : Byte) : Effect s (s.poke a v) :=
  ⟨by simp, by simp, by simp, by simp, by simp, by simp, by simp [State.FlagsInv], fun h => State.memInv_poke h a v,
    fun x hx => State.peek_poke_rom s a x v hx⟩

theorem Effect.setReg (s : State) (r : Reg8) (v : Byte) : Effect s (s.setReg r v) :=
  .cpu (by simp) (by simp) (by simp) (by simp) (by simp) (by simp) (by simp [State.FlagsInv]) (by simp)

theorem Effect.setFlags (s : State) (g : Flags) : Effect s (s.setFlags g) :=
  .cpu rfl rfl rfl rfl rfl rfl (fun _ => Flags.toByte_lowNibble g) rfl

theorem Effect.advance (s : State) (n : Nat) : Effect s (s.advance n) := .cpu rfl rfl rfl rfl rfl rfl id rfl

theorem Effect.jump (s : State) (w : Word) : Effect s (s.jump w) := .cpu rfl rfl rfl rfl rfl rfl id rfl

theorem Effect.setPair (s : State) (p : Pair) (w : Word) : Effect s (s.setPair p w) := by
  cases p <;> exact .cpu rfl rfl rfl rfl rfl rfl id rfl

theorem Effect.setStackPair (s : State) (q : StackPair) (w : Word) : Effect s (s.setStackPair q w) := by
  cases q
  · exact .cpu rfl rfl rfl rfl rfl rfl id rfl
  · exact .cpu rfl rfl rfl rfl rfl rfl id rfl
  · exact .cpu rfl rfl rfl rfl rfl rfl id rfl
  · refine .cpu rfl rfl rfl rfl rfl rfl (fun _ => ?_) rfl
    show (loByte w &&& 0xF0) &&& 0x0F = 0
    rw [BitVec.and_assoc]
    simp

theorem Effect.accAfter (s : State) (m : AccAddr) : Effect s (s.accAfter m) := by
  cases m <;> exact .cpu rfl rfl rfl rfl rfl rfl id rfl

theorem Effect.alu (s : State) (o : AluOp) (v : Byte) : Effect s (s.alu o v) := by
  cases o <;> exact .cpu rfl rfl rfl rfl rfl rfl (fun _ => Flags.toByte_lowNibble _) rfl

/-- The effect of an instruction: of the next state, or of the state at the fault, where besides SP and memory nothing
has changed (R354, R373). `stops` and `halts` say whether it sets the run-control booleans (R31). -/
def InstrEffect (s : State) (stops halts : Bool) : Result → Prop
  | .next t => Effect s t ∧ t.stopped = (s.stopped || stops) ∧ t.halted = (s.halted || halts)
  | .fault (.unmappedAddress a u) => ¬Mapped a ∧ Effect s u ∧ u = { s with sp := u.sp, mem := u.mem }
  | .fault (.illegalOpcode _ u) => u = s
  | .refused _ => False

theorem InstrEffect.next {s t : State} (h : Effect s t) (h1 : t.stopped = s.stopped) (h2 : t.halted = s.halted) :
    InstrEffect s false false (.next t) := ⟨h, by simp [h1], by simp [h2]⟩

/-- A read, and then what follows it. -/
theorem InstrEffect.read {s : State} {a : Word} {f : Byte → Except Fault State}
    (h : InstrEffect s false false (outcome (f (s.peek a)))) :
    InstrEffect s false false (outcome (s.readByte a >>= f)) := by
  rcases State.readByte_cases s a with ⟨_, he⟩ | ⟨hm, he⟩ <;> rw [he]
  · exact h
  · exact ⟨hm, .refl s, rfl⟩

/-- A write, and then what follows it. -/
theorem InstrEffect.write {s : State} {a : Word} {v : Byte} {f : State → Except Fault State}
    (h : InstrEffect s false false (outcome (f (s.poke a v)))) :
    InstrEffect s false false (outcome (s.writeByte a v >>= f)) := by
  rcases State.writeByte_cases s a v with ⟨_, he⟩ | ⟨hm, he⟩ <;> rw [he]
  · exact h
  · exact ⟨hm, .refl s, rfl⟩

theorem InstrEffect.readOperand {s : State} {x : Operand8} {f : Byte → Except Fault State}
    (h : ∀ v, InstrEffect s false false (outcome (f v))) :
    InstrEffect s false false (outcome (s.readOperand x >>= f)) := by
  cases x with
  | reg r => exact h _
  | atHL => exact .read (h _)

theorem InstrEffect.writeOperand {s : State} {x : Operand8} {v : Byte} {f : State → Except Fault State}
    (h : ∀ t, Effect s t → t.stopped = s.stopped → t.halted = s.halted →
      InstrEffect s false false (outcome (f t))) :
    InstrEffect s false false (outcome (s.writeOperand x v >>= f)) := by
  cases x with
  | reg r => exact h _ (.setReg s r v) (by simp) (by simp)
  | atHL => exact .write (h _ (.poke s _ v) (by simp) (by simp))

theorem InstrEffect.push {s : State} {w : Word} {f : State → Except Fault State}
    (h : ∀ t, Effect s t → t.stopped = s.stopped → t.halted = s.halted →
      InstrEffect s false false (outcome (f t))) :
    InstrEffect s false false (outcome (s.push16 w >>= f)) := by
  have e1 : Effect s { s with sp := s.sp - 1 } := .cpu rfl rfl rfl rfl rfl rfl id rfl
  unfold State.push16
  rcases State.writeByte_cases { s with sp := s.sp - 1 } (s.sp - 1) (hiByte w) with ⟨_, he⟩ | ⟨hm, he⟩ <;>
    simp only [he, except_bind_ok, except_bind_error]
  · rw [State.poke_setSP]
    dsimp only
    have e2 : Effect s { s.poke (s.sp - 1) (hiByte w) with sp := s.sp - 1 - 1 } :=
      (Effect.poke s _ _).trans (.cpu rfl rfl rfl rfl rfl rfl id rfl)
    rcases State.writeByte_cases { s.poke (s.sp - 1) (hiByte w) with sp := s.sp - 1 - 1 } (s.sp - 1 - 1) (loByte w)
      with ⟨_, he⟩ | ⟨hm, he⟩ <;> simp only [he, except_bind_ok, except_bind_error]
    · exact h _ (e2.trans (.poke _ _ _)) (by simp) (by simp)
    · refine ⟨hm, e2, ?_⟩
      rw [State.poke_eq]
  · exact ⟨hm, e1, rfl⟩

theorem InstrEffect.pop {s : State} {f : Word × State → Except Fault State}
    (h : ∀ w t, Effect s t → t.stopped = s.stopped → t.halted = s.halted →
      InstrEffect s false false (outcome (f (w, t)))) :
    InstrEffect s false false (outcome (s.pop16 >>= f)) := by
  have e1 : ∀ w, Effect s { s with sp := w } := fun w => .cpu rfl rfl rfl rfl rfl rfl id rfl
  unfold State.pop16
  rcases State.readByte_cases s s.sp with ⟨_, he⟩ | ⟨hm, he⟩ <;> simp only [he, except_bind_ok, except_bind_error]
  · rcases State.readByte_cases { s with sp := s.sp + 1 } (s.sp + 1) with ⟨_, he⟩ | ⟨hm, he⟩ <;>
      simp only [he, except_bind_ok, except_bind_error, except_pure]
    · exact h _ _ (e1 _) rfl rfl
    · exact ⟨hm, e1 _, rfl⟩
  · exact ⟨hm, .refl s, rfl⟩

/-! ### The families -/

/-- STOP is the one instruction that sets `stopped` (R31, R282). -/
def isStop : Instr → Bool
  | .stop => true
  | .stopOneByte => true
  | _ => false

/-- HALT is the one instruction that sets `halted` (R31, R281). -/
def isHalt : Instr → Bool
  | .halt => true
  | _ => false

theorem call_effect (nn : Word) (s : State) : InstrEffect s false false (call nn s) :=
  .push fun _ h h1 h2 => .next (h.trans (.jump _ _)) h1 h2

theorem returnFrom_effect (s : State) : InstrEffect s false false (returnFrom s) :=
  .pop fun _ _ h h1 h2 => .next (h.trans (.jump _ _)) h1 h2

/-- What any instruction does, on every state. -/
theorem exec_effect (i : Instr) (s : State) : InstrEffect s (isStop i) (isHalt i) (exec i s) := by
  have key : isStop i = false → isHalt i = false → InstrEffect s false false (exec i s) := by
    induction i using instr_families with
    | h_stopOf len => intro h; cases len <;> cases h
    | h_halt => intro _ h; cases h
    | h_ldRegReg dst src =>
      intro _ _; rw [exec_ldRegReg]
      exact .next ((Effect.setReg s _ _).trans (.advance _ _)) (by simp) (by simp)
    | h_ldRegHL dst =>
      intro _ _; rw [exec_ldRegHL]
      exact .read (.next ((Effect.setReg s _ _).trans (.advance _ _)) (by simp) (by simp))
    | h_ldHLReg src =>
      intro _ _; rw [exec_ldHLReg]
      exact .write (.next ((Effect.poke s _ _).trans (.advance _ _)) (by simp) (by simp))
    | h_ldImm x n =>
      intro _ _; rw [exec_ldImm]
      exact .writeOperand fun _ h h1 h2 => .next (h.trans (.advance _ _)) h1 h2
    | h_ldAccFrom m =>
      intro _ _; rw [exec_ldAccFrom]
      exact .read (.next ((Effect.setReg s .a _).trans ((Effect.accAfter _ m).trans (.advance _ _)))
        (by simp) (by simp))
    | h_ldAccTo m =>
      intro _ _; rw [exec_ldAccTo]
      exact .write (.next ((Effect.poke s _ _).trans ((Effect.accAfter _ m).trans (.advance _ _)))
        (by simp) (by simp))
    | h_ldPairImm p nn =>
      intro _ _; rw [exec_ldPairImm]
      exact .next ((Effect.setPair s _ _).trans (.advance _ _)) (by simp) (by simp)
    | h_push q =>
      intro _ _; rw [exec_push]
      exact .push fun _ h h1 h2 => .next (h.trans (.advance _ _)) h1 h2
    | h_pop q =>
      intro _ _; rw [exec_pop]
      exact .pop fun _ _ h h1 h2 => .next (h.trans ((Effect.setStackPair _ _ _).trans (.advance _ _)))
        (by simpa using h1) (by simpa using h2)
    | h_alu o x =>
      intro _ _; rw [exec_alu]
      exact .readOperand fun _ => .next ((Effect.alu s _ _).trans (.advance _ _)) (by simp) (by simp)
    | h_aluImm o n =>
      intro _ _; rw [exec_aluImm]
      exact .next ((Effect.alu s _ _).trans (.advance _ _)) (by simp) (by simp)
    | h_inc8 x =>
      intro _ _; rw [exec_inc8]
      exact .readOperand fun _ => .writeOperand fun _ h h1 h2 =>
        .next (h.trans ((Effect.setFlags _ _).trans (.advance _ _))) h1 h2
    | h_dec8 x =>
      intro _ _; rw [exec_dec8]
      exact .readOperand fun _ => .writeOperand fun _ h h1 h2 =>
        .next (h.trans ((Effect.setFlags _ _).trans (.advance _ _))) h1 h2
    | h_incPair p =>
      intro _ _; rw [exec_incPair]
      exact .next ((Effect.setPair s _ _).trans (.advance _ _)) (by simp) (by simp)
    | h_decPair p =>
      intro _ _; rw [exec_decPair]
      exact .next ((Effect.setPair s _ _).trans (.advance _ _)) (by simp) (by simp)
    | h_addHLPair p =>
      intro _ _; rw [exec_addHLPair]
      exact .next ((Effect.setPair s .hl _).trans ((Effect.setFlags _ _).trans (.advance _ _))) rfl rfl
    | h_shift o x =>
      intro _ _; rw [exec_shift]
      exact .readOperand fun _ => .writeOperand fun _ h h1 h2 =>
        .next (h.trans ((Effect.setFlags _ _).trans (.advance _ _))) h1 h2
    | h_bit8 k x =>
      intro _ _; rw [exec_bit8]
      exact .readOperand fun _ => .next ((Effect.setFlags s _).trans (.advance _ _)) rfl rfl
    | h_res8 k x =>
      intro _ _; rw [exec_res8]
      exact .readOperand fun _ => .writeOperand fun _ h h1 h2 => .next (h.trans (.advance _ _)) h1 h2
    | h_set8 k x =>
      intro _ _; rw [exec_set8]
      exact .readOperand fun _ => .writeOperand fun _ h h1 h2 => .next (h.trans (.advance _ _)) h1 h2
    | h_jpCond cc nn =>
      intro _ _; rw [exec_jpCond]; unfold jumpIf
      split
      · exact .next (.jump _ _) rfl rfl
      · exact .next (.advance _ _) rfl rfl
    | h_jrCond cc e =>
      intro _ _; rw [exec_jrCond]; unfold jumpRelativeIf
      split
      · exact .next (.jump _ _) rfl rfl
      · exact .next (.advance _ _) rfl rfl
    | h_callCond cc nn =>
      intro _ _; rw [exec_callCond]; unfold callIf
      split
      · exact call_effect nn s
      · exact .next (.advance _ _) rfl rfl
    | h_retCond cc =>
      intro _ _; rw [exec_retCond]; unfold returnIf
      split
      · exact returnFrom_effect s
      · exact .next (.advance _ _) rfl rfl
    | h_rst k =>
      intro _ _; rw [exec_rst]
      exact .push fun _ h h1 h2 => .next (h.trans (.jump _ _)) h1 h2
    | h_ld_atNn_sp nn =>
      intro _ _
      show InstrEffect s false false (outcome (s.writeWord nn s.sp >>= fun s' => pure (s'.advance 3)))
      unfold State.writeWord
      rcases State.writeByte_cases s nn (loByte s.sp) with ⟨_, he⟩ | ⟨hm, he⟩ <;>
        simp only [he, except_bind_ok, except_bind_error]
      · rcases State.writeByte_cases (s.poke nn (loByte s.sp)) (nn + 1) (hiByte s.sp) with ⟨_, he⟩ | ⟨hm, he⟩ <;>
          simp only [he, except_bind_ok, except_bind_error, except_pure]
        · exact .next ((Effect.poke s _ _).trans ((Effect.poke _ _ _).trans (.advance _ _))) (by simp) (by simp)
        · refine ⟨hm, .poke s _ _, ?_⟩
          rw [State.poke_eq]
      · exact ⟨hm, .refl s, rfl⟩
    | h_ld_sp_hl => intro _ _; exact .next (.cpu rfl rfl rfl rfl rfl rfl id rfl) rfl rfl
    | h_ld_hl_spPlusE e =>
      intro _ _
      exact .next ((Effect.setPair s .hl _).trans ((Effect.setFlags _ _).trans (.advance _ _))) rfl rfl
    | h_add_sp_e e =>
      intro _ _
      exact .next ((Effect.setPair s .sp _).trans ((Effect.setFlags _ _).trans (.advance _ _))) rfl rfl
    | h_daa => intro _ _; exact .next ((Effect.setReg s .a _).trans ((Effect.setFlags _ _).trans (.advance _ _))) rfl rfl
    | h_cpl => intro _ _; exact .next ((Effect.setReg s .a _).trans ((Effect.setFlags _ _).trans (.advance _ _))) rfl rfl
    | h_scf => intro _ _; exact .next ((Effect.setFlags s _).trans (.advance _ _)) rfl rfl
    | h_ccf => intro _ _; exact .next ((Effect.setFlags s _).trans (.advance _ _)) rfl rfl
    | h_rlca => intro _ _; exact .next ((Effect.setReg s .a _).trans ((Effect.setFlags _ _).trans (.advance _ _))) rfl rfl
    | h_rrca => intro _ _; exact .next ((Effect.setReg s .a _).trans ((Effect.setFlags _ _).trans (.advance _ _))) rfl rfl
    | h_rla => intro _ _; exact .next ((Effect.setReg s .a _).trans ((Effect.setFlags _ _).trans (.advance _ _))) rfl rfl
    | h_rra => intro _ _; exact .next ((Effect.setReg s .a _).trans ((Effect.setFlags _ _).trans (.advance _ _))) rfl rfl
    | h_jp_nn nn => intro _ _; exact .next (.jump _ _) rfl rfl
    | h_jp_atHL => intro _ _; exact .next (.jump _ _) rfl rfl
    | h_jr_e e => intro _ _; exact .next (.jump _ _) rfl rfl
    | h_call_nn nn => intro _ _; exact call_effect nn s
    | h_ret => intro _ _; exact returnFrom_effect s
    | h_reti => intro _ _; exact returnFrom_effect s
    | h_nop => intro _ _; exact .next (.advance _ _) rfl rfl
    | h_di => intro _ _; exact .next (.advance _ _) rfl rfl
    | h_ei => intro _ _; exact .next (.advance _ _) rfl rfl
    | h_illegal op => intro _ _; exact rfl
  by_cases h : isStop i = false
  · by_cases h' : isHalt i = false
    · rw [h, h']; exact key h h'
    · have : i = .halt := by revert h'; cases i <;> simp [isHalt]
      subst this
      exact ⟨.cpu rfl rfl rfl rfl rfl rfl id rfl, by simp [isStop], by simp [isHalt]⟩
  · have : i = .stop ∨ i = .stopOneByte := by revert h; cases i <;> simp [isStop]
    rcases this with rfl | rfl <;> exact ⟨.cpu rfl rfl rfl rfl rfl rfl id rfl, by simp [isStop], by simp [isHalt]⟩

/-- No instruction is refused. -/
theorem exec_ne_refused (i : Instr) (s : State) (r : Refusal) : exec i s ≠ .refused r := by
  intro h
  have := exec_effect i s
  rw [h] at this
  exact this

end Sys2Proof.Machine
end

