-- ==== Sys2Proof/Laws/Ppu.lean ====
section
/-!
SUPPORT. What the tick and the serial tap can do, said once (47_ppu_modes.md rules R302 to R308, 49_machine_step.md rules
R353, R355).
-/

namespace Sys2Proof.Machine

/-! ### Memory as it is read -/

/-- The addresses the PPU writes are mapped and are not ROM (R65, R308). -/
theorem ppu_addr_mapped : Mapped ifAddr ∧ Mapped statAddr ∧ Mapped lyAddr ∧
    resolve ifAddr = some 0xFF0F ∧ resolve statAddr = some 0xFF41 ∧ resolve lyAddr = some 0xFF44 ∧
    resolve lycAddr = some 0xFF45 ∧ resolve scAddr = some 0xFF02 ∧ resolve sbAddr = some 0xFF01 := by
  decide

/-! ### What leaving a mode changes -/

theorem State.poke_other (s : State) (a x : Word) (v : Byte) (h : resolve x ≠ resolve a) :
    (s.poke a v).peek x = s.peek x := by rw [State.peek_poke]; simp [h]

/-- Everything a mode change writes: the PPU, the framebuffer, the memory, the frame stream. -/
theorem State.setMode_eq (s : State) (m : PpuMode) :
    s.setMode m = { s with ppuMode := m, mem := (s.setMode m).mem } := by
  unfold State.setMode
  rw [State.poke_eq]

theorem State.setLine_eq (s : State) (y : Nat) :
    s.setLine y = { s with ppuLine := y, mem := (s.setLine y).mem } := by
  unfold State.setLine
  rw [State.poke_eq]

theorem State.setMemBit_eq (s : State) (a : Word) (i : Fin 8) :
    s.setMemBit a i = { s with mem := (s.setMemBit a i).mem } := by
  unfold State.setMemBit
  rw [State.poke_eq]

theorem State.clearMemBit_eq (s : State) (a : Word) (i : Fin 8) :
    s.clearMemBit a i = { s with mem := (s.clearMemBit a i).mem } := by
  unfold State.clearMemBit
  rw [State.poke_eq]

theorem State.renderLine_eq (s : State) (y : Nat) :
    s.renderLine y = { s with fb := (s.renderLine y).fb } := by
  unfold State.renderLine
  split <;> rfl

/-- `t` differs from `s` in the PPU, the framebuffer, the memory and the frame stream at most. -/
def OnlyDevices (s t : State) : Prop :=
  t = { s with ppuLine := t.ppuLine, ppuMode := t.ppuMode, ppuAcc := t.ppuAcc, fb := t.fb, mem := t.mem,
               frames := t.frames }

theorem OnlyDevices.refl (s : State) : OnlyDevices s s := rfl

theorem OnlyDevices.trans {s t u : State} (h : OnlyDevices s t) (h' : OnlyDevices t u) : OnlyDevices s u := by
  unfold OnlyDevices at *
  rw [h', h]

theorem OnlyDevices.setMode (s : State) (m : PpuMode) : OnlyDevices s (s.setMode m) := by
  unfold OnlyDevices; rw [State.setMode_eq]

theorem OnlyDevices.setLine (s : State) (y : Nat) : OnlyDevices s (s.setLine y) := by
  unfold OnlyDevices; rw [State.setLine_eq]

theorem OnlyDevices.setMemBit (s : State) (a : Word) (i : Fin 8) : OnlyDevices s (s.setMemBit a i) := by
  unfold OnlyDevices; rw [State.setMemBit_eq]

theorem OnlyDevices.clearMemBit (s : State) (a : Word) (i : Fin 8) : OnlyDevices s (s.clearMemBit a i) := by
  unfold OnlyDevices; rw [State.clearMemBit_eq]

theorem OnlyDevices.renderLine (s : State) (y : Nat) : OnlyDevices s (s.renderLine y) := by
  unfold OnlyDevices; rw [State.renderLine_eq]

theorem OnlyDevices.ite {s t u : State} {p : Prop} [Decidable p] (h : OnlyDevices s t) (h' : OnlyDevices s u) :
    OnlyDevices s (if p then t else u) := by split <;> assumption

theorem OnlyDevices.leaveVRAM (s : State) : OnlyDevices s s.leaveVRAM := by
  unfold State.leaveVRAM
  extract_lets s1 s2 eq s3
  have h1 : OnlyDevices s s1 := .setMode s _
  have h2 : OnlyDevices s s2 := .ite (h1.trans (.setMemBit s1 _ _)) h1
  have h3 : OnlyDevices s s3 := .ite (h2.trans (.setMemBit s2 _ _)) (h2.trans (.clearMemBit s2 _ _))
  exact .ite (h3.trans (.setMemBit s3 _ _)) h3

theorem OnlyDevices.leaveHBlank (s : State) : OnlyDevices s s.leaveHBlank := by
  unfold State.leaveHBlank
  extract_lets s1 s2
  have h1 : OnlyDevices s s1 := .renderLine s _
  have h2 : OnlyDevices s s2 := h1.trans (.setLine s1 _)
  exact .ite ((h2.trans (.setMode s2 _)).trans (.setMemBit _ _ _)) (h2.trans (.setMode s2 _))

theorem OnlyDevices.leaveVBlank (s : State) : OnlyDevices s s.leaveVBlank := by
  unfold State.leaveVBlank
  extract_lets s1
  have h1 : OnlyDevices s s1 := .setLine s _
  have h2 : OnlyDevices s s1.emitFrame := h1.trans rfl
  exact .ite ((h2.trans (.setLine _ _)).trans (.setMode _ _)) h1

theorem OnlyDevices.leaveMode (s : State) : OnlyDevices s s.leaveMode := by
  unfold State.leaveMode
  split
  · exact .setMode s _
  · exact .leaveVRAM s
  · exact .leaveHBlank s
  · exact .leaveVBlank s

theorem OnlyDevices.passMode (s : State) : OnlyDevices s s.passMode :=
  OnlyDevices.trans (t := { s with ppuAcc := s.ppuAcc - budget s.ppuMode }) rfl (.leaveMode _)

/-! ### The loop of the tick -/

theorem budget_pos (m : PpuMode) : 80 ≤ budget m := by cases m <;> decide

/-- What every pass keeps holds after the loop. -/
theorem tickLoop_induct {P : State → Prop} (h : ∀ s, P s → budget s.ppuMode ≤ s.ppuAcc → P s.passMode)
    (n : Nat) {s : State} (hs : P s) : P (tickLoop n s) := by
  induction n generalizing s with
  | zero => exact hs
  | succ n ih =>
    simp only [tickLoop]
    split
    · exact ih (h s hs ‹_›)
    · exact hs

/-- What the new accumulator and every pass keep holds after a tick. -/
theorem State.tick_induct {P : State → Prop} {s : State} {c : Nat} (hs : P { s with ppuAcc := s.ppuAcc + c })
    (h : ∀ s, P s → budget s.ppuMode ≤ s.ppuAcc → P s.passMode) : P (s.tick c) :=
  tickLoop_induct h _ hs

theorem OnlyDevices.tick (s : State) (c : Nat) : OnlyDevices s (s.tick c) :=
  State.tick_induct (P := OnlyDevices s) rfl fun t ht _ => ht.trans (.passMode t)

/-- The mode that is left comes to an end without touching the accumulator (R303 to R306). -/
@[simp] theorem State.leaveMode_ppuAcc (s : State) : s.leaveMode.ppuAcc = s.ppuAcc := by
  unfold State.leaveMode
  split
  · simp [State.leaveOAM]
  · unfold State.leaveVRAM
    extract_lets s1 s2 eq s3
    have h1 : s1.ppuAcc = s.ppuAcc := by simp [s1]
    have h2 : s2.ppuAcc = s.ppuAcc := by simp only [s2]; split <;> simp [h1]
    have h3 : s3.ppuAcc = s.ppuAcc := by simp only [s3]; split <;> simp [h2]
    split <;> simp [h3]
  · unfold State.leaveHBlank
    extract_lets s1 s2
    have h1 : s1.ppuAcc = s.ppuAcc := by simp only [s1]; rw [State.renderLine_eq]
    have h2 : s2.ppuAcc = s.ppuAcc := by simp [s2, h1]
    split <;> simp [h2]
  · unfold State.leaveVBlank
    extract_lets s1
    have h1 : s1.ppuAcc = s.ppuAcc := by simp [s1]
    split <;> simp [h1]

@[simp] theorem State.passMode_ppuAcc (s : State) : s.passMode.ppuAcc = s.ppuAcc - budget s.ppuMode := by
  simp [State.passMode]

/-- With enough passes the loop runs to its end (R302). -/
theorem tickLoop_lt (n : Nat) {s : State} (h : s.ppuAcc ≤ n) :
    (tickLoop n s).ppuAcc < budget (tickLoop n s).ppuMode := by
  induction n generalizing s with
  | zero => have := budget_pos s.ppuMode; simp only [tickLoop]; omega
  | succ n ih =>
    simp only [tickLoop]
    split
    · refine ih ?_
      have := budget_pos s.ppuMode
      rw [State.passMode_ppuAcc]; omega
    · omega

/-- The number of passes allowed does not matter once it is enough. -/
theorem tickLoop_fuel (m n : Nat) {s : State} (hm : s.ppuAcc ≤ m) (hn : s.ppuAcc ≤ n) :
    tickLoop m s = tickLoop n s := by
  induction m generalizing n s with
  | zero =>
    have := budget_pos s.ppuMode
    cases n with
    | zero => rfl
    | succ n => simp only [tickLoop]; rw [if_neg (by omega)]
  | succ m ih =>
    have := budget_pos s.ppuMode
    cases n with
    | zero => simp only [tickLoop]; rw [if_neg (by omega)]
    | succ n =>
      simp only [tickLoop]
      split
      · exact ih n (by rw [State.passMode_ppuAcc]; omega) (by rw [State.passMode_ppuAcc]; omega)
      · rfl

/-- The tick, unrolled once (R302). -/
theorem State.tick_zero_eq (s : State) :
    s.tick 0 = if budget s.ppuMode ≤ s.ppuAcc then s.passMode.tick 0 else s := by
  have hb := budget_pos s.ppuMode
  have h0 : ∀ t : State, t.tick 0 = tickLoop t.ppuAcc t := fun t => rfl
  rw [h0]
  split
  · rename_i h
    rw [h0]
    cases hk : s.ppuAcc with
    | zero => omega
    | succ k =>
      simp only [tickLoop]
      rw [if_pos h]
      exact tickLoop_fuel _ _ (by rw [State.passMode_ppuAcc]; omega) (Nat.le_refl _)
  · rename_i h
    cases hk : s.ppuAcc with
    | zero => rfl
    | succ k => simp only [tickLoop]; rw [if_neg h]

theorem State.tick_eq (s : State) (c : Nat) : s.tick c = State.tick { s with ppuAcc := s.ppuAcc + c } 0 := rfl

/-! ### Leaving a mode does not look at the accumulator or the text -/

/-- The state with another accumulator. -/
def State.withAcc (s : State) (k : Nat) : State := { s with ppuAcc := k }

theorem State.poke_withAcc (s : State) (k : Nat) (a : Word) (v : Byte) :
    (s.withAcc k).poke a v = (s.poke a v).withAcc k := by
  unfold State.poke State.withAcc
  split
  · split <;> rfl
  · rfl

theorem State.setMemBit_withAcc (s : State) (k : Nat) (a : Word) (i : Fin 8) :
    (s.withAcc k).setMemBit a i = (s.setMemBit a i).withAcc k := by
  unfold State.setMemBit; rw [State.poke_withAcc]; rfl

theorem State.clearMemBit_withAcc (s : State) (k : Nat) (a : Word) (i : Fin 8) :
    (s.withAcc k).clearMemBit a i = (s.clearMemBit a i).withAcc k := by
  unfold State.clearMemBit; rw [State.poke_withAcc]; rfl

theorem State.setMode_withAcc (s : State) (k : Nat) (m : PpuMode) :
    (s.withAcc k).setMode m = (s.setMode m).withAcc k :=
  State.poke_withAcc { s with ppuMode := m } k _ _

theorem State.setLine_withAcc (s : State) (k : Nat) (y : Nat) :
    (s.withAcc k).setLine y = (s.setLine y).withAcc k :=
  State.poke_withAcc { s with ppuLine := y } k _ _

theorem State.renderLine_withAcc (s : State) (k : Nat) (y : Nat) :
    (s.withAcc k).renderLine y = (s.renderLine y).withAcc k := by
  unfold State.renderLine State.withAcc
  split <;> rfl

theorem State.ite_withAcc {p : Prop} [Decidable p] (s t : State) (k : Nat) :
    (if p then s.withAcc k else t.withAcc k) = (if p then s else t).withAcc k := by split <;> rfl

theorem State.peek_withAcc (s : State) (k : Nat) (a : Word) : (s.withAcc k).peek a = s.peek a := rfl

theorem State.emitFrame_withAcc (s : State) (k : Nat) : (s.withAcc k).emitFrame = s.emitFrame.withAcc k := rfl

@[simp] theorem State.withAcc_ppuLine (s : State) (k : Nat) : (s.withAcc k).ppuLine = s.ppuLine := rfl
@[simp] theorem State.withAcc_ppuMode (s : State) (k : Nat) : (s.withAcc k).ppuMode = s.ppuMode := rfl
@[simp] theorem State.withAcc_ppuAcc (s : State) (k : Nat) : (s.withAcc k).ppuAcc = k := rfl

theorem State.leaveMode_withAcc (s : State) (k : Nat) : (s.withAcc k).leaveMode = s.leaveMode.withAcc k := by
  cases hm : s.ppuMode <;> simp only [State.leaveMode, State.withAcc_ppuMode, hm]
  · exact State.setMode_withAcc s k _
  · simp only [State.leaveVRAM, State.setMode_withAcc, State.peek_withAcc, State.setMemBit_withAcc,
      State.clearMemBit_withAcc, State.ite_withAcc]
  · simp only [State.leaveHBlank, State.renderLine_withAcc, State.setLine_withAcc, State.setMode_withAcc,
      State.setMemBit_withAcc, State.withAcc_ppuLine, State.ite_withAcc]
  · simp only [State.leaveVBlank, State.emitFrame_withAcc, State.setLine_withAcc, State.setMode_withAcc,
      State.withAcc_ppuLine, State.ite_withAcc]

theorem State.passMode_withAcc (s : State) (k : Nat) (h : budget s.ppuMode ≤ s.ppuAcc) :
    (s.withAcc (s.ppuAcc + k)).passMode = s.passMode.withAcc (s.passMode.ppuAcc + k) := by
  have h1 : (s.withAcc (s.ppuAcc + k)).passMode = State.leaveMode (s.withAcc (s.ppuAcc + k - budget s.ppuMode)) := rfl
  have h2 : s.passMode = State.leaveMode (s.withAcc (s.ppuAcc - budget s.ppuMode)) := rfl
  rw [h1, State.passMode_ppuAcc, h2, State.leaveMode_withAcc, State.leaveMode_withAcc]
  have : s.ppuAcc + k - budget s.ppuMode = s.ppuAcc - budget s.ppuMode + k := by omega
  rw [this]; rfl

/-- A tick may be split at any point (R311). -/
theorem State.tick_add (s : State) (b c : Nat) : (s.tick b).tick c = s.tick (b + c) := by
  have key : ∀ n (s : State), s.ppuAcc ≤ n → (s.tick 0).tick c = s.tick c := by
    intro n
    induction n with
    | zero =>
      intro s hs
      have := budget_pos s.ppuMode
      rw [State.tick_zero_eq, if_neg (by omega)]
    | succ n ih =>
      intro s hs
      have hb := budget_pos s.ppuMode
      rw [State.tick_zero_eq]
      split
      · rename_i h
        rw [ih s.passMode (by rw [State.passMode_ppuAcc]; omega), State.tick_eq s c, State.tick_zero_eq]
        rw [if_pos (show budget s.ppuMode ≤ s.ppuAcc + c by omega), State.tick_eq s.passMode]
        exact congrArg (State.tick · 0) (State.passMode_withAcc s c h).symm
      · rfl
  rw [State.tick_eq s b, key _ _ (Nat.le_refl _), State.tick_eq _ c, State.tick_eq s (b + c), Nat.add_assoc]

end Sys2Proof.Machine
end

