-- ==== Sys2Proof/Laws/Tick.lean ====
section
/-!
SUPPORT. What a tick does to memory and to the PPU's position, and that the tick and the serial tap commute
(10_state.md rule R34, 47_ppu_modes.md rules R302 to R311, 49_machine_step.md rules R353, R355).
-/

namespace Sys2Proof.Machine

/-! ### Properties that every write of the PPU keeps -/

/-- What each of the PPU's own operations keeps, leaving a mode keeps (R303 to R306). -/
theorem State.leaveMode_induct {P : State → Prop}
    (hmode : ∀ s m, P s → P (s.setMode m)) (hline : ∀ s y, P s → P (s.setLine y))
    (hif : ∀ s (i : Fin 8), i = 0 ∨ i = 1 → P s → P (s.setMemBit ifAddr i)) (hset : ∀ s, P s → P (s.setMemBit statAddr 2))
    (hclear : ∀ s, P s → P (s.clearMemBit statAddr 2)) (hrender : ∀ s y, P s → P (s.renderLine y))
    (hemit : ∀ s, P s → P s.emitFrame) {s : State} (h : P s) : P s.leaveMode := by
  have ite : ∀ {p : Prop} [Decidable p] {a b : State}, P a → P b → P (if p then a else b) := by
    intro p _ a b ha hb; split <;> assumption
  unfold State.leaveMode
  split
  · exact hmode _ _ h
  · unfold State.leaveVRAM
    extract_lets s1 s2 eq s3
    have h1 : P s1 := hmode _ _ h
    have h2 : P s2 := ite (hif _ _ (.inr rfl) h1) h1
    have h3 : P s3 := ite (hset _ h2) (hclear _ h2)
    exact ite (hif _ _ (.inr rfl) h3) h3
  · unfold State.leaveHBlank
    extract_lets s1 s2
    have h1 : P s1 := hrender _ _ h
    have h2 : P s2 := hline _ _ h1
    exact ite (hif _ _ (.inl rfl) (hmode _ _ h2)) (hmode _ _ h2)
  · unfold State.leaveVBlank
    extract_lets s1
    have h1 : P s1 := hline _ _ h
    exact ite (hmode _ _ (hline _ _ (hemit _ h1))) h1

/-- What writing IF, STAT and LY keeps, and nothing but memory decides, a tick keeps. -/
theorem State.tick_mem_induct {P : State → Prop} (hP : ∀ s t : State, t.mem = s.mem → P s → P t)
    (hpoke : ∀ (s : State) a v, a = ifAddr ∨ a = statAddr ∨ a = lyAddr → P s → P (s.poke a v))
    {s : State} (c : Nat) (h : P s) : P (s.tick c) := by
  refine State.tick_induct (P := P) (hP s _ rfl h) fun t ht _ => ?_
  refine State.leaveMode_induct ?_ ?_ ?_ ?_ ?_ ?_ ?_ (hP t _ rfl ht)
  · intro s m hs; exact hpoke _ _ _ (by simp) (hP s _ rfl hs)
  · intro s m hs; exact hpoke _ _ _ (by simp) (hP s _ rfl hs)
  · intro s i _ hs; exact hpoke _ _ _ (by simp) hs
  · intro s hs; exact hpoke _ _ _ (by simp) hs
  · intro s hs; exact hpoke _ _ _ (by simp) hs
  · intro s y hs; exact hP s _ (State.renderLine_mem s y) hs
  · intro s hs; exact hP s _ rfl hs

/-- A tick keeps the memory invariant (R58). -/
theorem State.memInv_tick {s : State} (h : s.MemInv) (c : Nat) : (s.tick c).MemInv :=
  State.tick_mem_induct (P := State.MemInv)
    (fun _ _ he hs => ⟨he ▸ hs.1, he ▸ hs.2⟩)
    (fun _ a v _ hs => State.memInv_poke hs a v) c h

/-- A tick writes IF, STAT and LY only (R353). -/
theorem State.peek_tick (s : State) (c : Nat) (x : Word) (h : x ≠ ifAddr) (h' : x ≠ statAddr) (h'' : x ≠ lyAddr) :
    (s.tick c).peek x = s.peek x := by
  have inj : ∀ a : Word, (a = ifAddr ∨ a = statAddr ∨ a = lyAddr) → resolve x ≠ resolve a := by
    intro a ha he
    have hx := x.isLt
    have hc : ∀ p, resolve x = some p → 0xFF00 ≤ p → p = x.toNat := fun p hp hle => by
      have := resolve_cases hp; omega
    rcases ha with rfl | rfl | rfl
    · rw [ppu_addr_mapped.2.2.2.1] at he
      exact h (BitVec.eq_of_toNat_eq (hc _ he (by decide)).symm)
    · rw [ppu_addr_mapped.2.2.2.2.1] at he
      exact h' (BitVec.eq_of_toNat_eq (hc _ he (by decide)).symm)
    · rw [ppu_addr_mapped.2.2.2.2.2.1] at he
      exact h'' (BitVec.eq_of_toNat_eq (hc _ he (by decide)).symm)
  exact State.tick_mem_induct (P := fun t => t.peek x = s.peek x)
    (fun s t he hs => (State.peek_congr he x).trans hs)
    (fun t a v ha hs => (State.poke_other t a x v (inj a ha)).trans hs) c rfl

/-- A tick never reaches ROM (R53). -/
theorem State.peek_tick_rom (s : State) (c : Nat) (x : Word) (h : x.toNat ≤ 0x7FFF) : (s.tick c).peek x = s.peek x := by
  refine State.peek_tick s c x ?_ ?_ ?_ <;> rintro rfl <;> revert h <;> decide

/-! ### The position of the PPU (R34, R311) -/

theorem State.leaveVRAM_ppu (s : State) :
    s.leaveVRAM.ppuMode = .hblank ∧ s.leaveVRAM.ppuLine = s.ppuLine ∧ s.leaveVRAM.frames = s.frames := by
  unfold State.leaveVRAM
  extract_lets s1 s2 eq s3
  have h1 : s1.ppuMode = .hblank ∧ s1.ppuLine = s.ppuLine ∧ s1.frames = s.frames := by simp [s1]
  have h2 : s2.ppuMode = .hblank ∧ s2.ppuLine = s.ppuLine ∧ s2.frames = s.frames := by
    simp only [s2]; split <;> simp [h1]
  have h3 : s3.ppuMode = .hblank ∧ s3.ppuLine = s.ppuLine ∧ s3.frames = s.frames := by
    simp only [s3]; split <;> simp [h2]
  split <;> simp [h3]

/-- A mode that is left hands over to the next at the point its budget says. -/
theorem State.leaveMode_position {s : State} (h : s.LineInv) :
    s.leaveMode.LineInv ∧
      70224 * s.leaveMode.frames.length + 456 * s.leaveMode.ppuLine + modeStart s.leaveMode.ppuMode =
        70224 * s.frames.length + 456 * s.ppuLine + modeStart s.ppuMode + budget s.ppuMode := by
  unfold State.LineInv at h ⊢
  cases hm : s.ppuMode <;> simp only [hm] at h <;> simp only [State.leaveMode, hm, budget]
  · simp only [State.leaveOAM, State.setMode_ppuMode, State.setMode_ppuLine, State.setMode_frames, modeStart]
    exact ⟨h, trivial⟩
  · rw [(State.leaveVRAM_ppu s).1, (State.leaveVRAM_ppu s).2.1, (State.leaveVRAM_ppu s).2.2]
    simp only [modeStart]
    exact ⟨h, trivial⟩
  · by_cases h144 : s.ppuLine + 1 = 144
    · simp [State.leaveHBlank, h144, modeStart]
      omega
    · simp [State.leaveHBlank, h144, modeStart]
      omega
  · by_cases h154 : s.ppuLine + 1 = 154
    · simp [State.leaveVBlank, h154, modeStart, State.emitFrame]
      omega
    · simp [State.leaveVBlank, h154, modeStart, hm]
      omega

/-- A pass moves the PPU by what it takes off the accumulator: its position stays. -/
theorem State.passMode_position {s : State} (h : s.LineInv) (hb : budget s.ppuMode ≤ s.ppuAcc) :
    s.passMode.LineInv ∧ s.passMode.ppuPosition = s.ppuPosition := by
  have key := State.leaveMode_position (s := s.withAcc (s.ppuAcc - budget s.ppuMode)) h
  have k2 : 70224 * s.passMode.frames.length + 456 * s.passMode.ppuLine + modeStart s.passMode.ppuMode =
    70224 * s.frames.length + 456 * s.ppuLine + modeStart s.ppuMode + budget s.ppuMode := key.2
  have hacc := State.passMode_ppuAcc s
  refine ⟨key.1, ?_⟩
  unfold State.ppuPosition
  omega

/-- A tick keeps the PPU invariant and moves the PPU by the cost (R34, R302, R311). -/
theorem State.tick_position {s : State} (h : s.LineInv) (c : Nat) :
    (s.tick c).PpuInv ∧ (s.tick c).ppuPosition = s.ppuPosition + c := by
  have key : (s.tick c).LineInv ∧ (s.tick c).ppuPosition = s.ppuPosition + c := by
    refine State.tick_induct (P := fun t => t.LineInv ∧ t.ppuPosition = s.ppuPosition + c) ⟨h, ?_⟩ fun t ht hb => ?_
    · unfold State.ppuPosition
      simp only
      omega
    · have := State.passMode_position ht.1 hb
      exact ⟨this.1, this.2.trans ht.2⟩
  exact ⟨⟨tickLoop_lt _ (Nat.le_refl _), key.1⟩, key.2⟩

/-! ### The serial tap -/

theorem State.serialTap_cases (s : State) (cfg : Config) :
    (s.peek scAddr = cfg.serialSentinel ∧
      s.serialTap cfg = { s.poke scAddr 0 with text := s.text ++ [s.peek sbAddr] }) ∨
    (s.peek scAddr ≠ cfg.serialSentinel ∧ s.serialTap cfg = s) := by
  unfold State.serialTap
  split
  · refine .inl ⟨‹_›, ?_⟩
    unfold State.poke
    split
    · split <;> rfl
    · rfl
  · exact .inr ⟨‹_›, rfl⟩

theorem State.memInv_serialTap {s : State} (h : s.MemInv) (cfg : Config) : (s.serialTap cfg).MemInv := by
  rcases State.serialTap_cases s cfg with ⟨_, he⟩ | ⟨_, he⟩ <;> rw [he]
  · exact State.memInv_poke h scAddr 0
  · exact h

/-- The tap writes SC only. -/
theorem State.peek_serialTap (s : State) (cfg : Config) (x : Word) (h : x ≠ scAddr) :
    (s.serialTap cfg).peek x = s.peek x := by
  rcases State.serialTap_cases s cfg with ⟨_, he⟩ | ⟨_, he⟩ <;> rw [he]
  refine (State.peek_congr (s := s.poke scAddr 0) rfl x).trans (State.poke_other s _ _ _ fun hr => h ?_)
  rw [ppu_addr_mapped.2.2.2.2.2.2.2.1] at hr
  have := resolve_cases hr
  have hx := x.isLt
  exact BitVec.eq_of_toNat_eq (show x.toNat = 0xFF02 by omega)

/-! ### The tick and the tap do not see each other (R353) -/

/-- `t` is `s` as the PPU sees it: the PPU's own state, the framebuffer, the frames, and every byte but SC. -/
structure PpuAlike (s t : State) : Prop where
  line : t.ppuLine = s.ppuLine
  mode : t.ppuMode = s.ppuMode
  acc : t.ppuAcc = s.ppuAcc
  fb : t.fb = s.fb
  frames : t.frames = s.frames
  read : ∀ x, resolve x ≠ resolve scAddr → t.peek x = s.peek x

namespace PpuAlike

variable {s t : State}

theorem withAcc (h : PpuAlike s t) (k : Nat) : PpuAlike (s.withAcc k) (t.withAcc k) :=
  ⟨h.line, h.mode, rfl, h.fb, h.frames, h.read⟩

theorem poke (h : PpuAlike s t) (a : Word) (v : Byte) : PpuAlike (s.poke a v) (t.poke a v) := by
  refine ⟨by simp [h.line], by simp [h.mode], by simp [h.acc], by simp [h.fb], by simp [h.frames], fun x hx => ?_⟩
  rw [State.peek_poke, State.peek_poke, h.read x hx]

theorem setMode (h : PpuAlike s t) (m : PpuMode) : PpuAlike (s.setMode m) (t.setMode m) := by
  unfold State.setMode
  rw [h.read statAddr (by decide)]
  exact poke (s := { s with ppuMode := m }) (t := { t with ppuMode := m })
    ⟨h.line, rfl, h.acc, h.fb, h.frames, h.read⟩ _ _

theorem setLine (h : PpuAlike s t) (y : Nat) : PpuAlike (s.setLine y) (t.setLine y) :=
  poke (s := { s with ppuLine := y }) (t := { t with ppuLine := y })
    ⟨rfl, h.mode, h.acc, h.fb, h.frames, h.read⟩ _ _

theorem setIf (h : PpuAlike s t) (i : Fin 8) : PpuAlike (s.setMemBit ifAddr i) (t.setMemBit ifAddr i) := by
  unfold State.setMemBit
  rw [h.read ifAddr (by decide)]
  exact h.poke _ _

theorem setStat (h : PpuAlike s t) (i : Fin 8) : PpuAlike (s.setMemBit statAddr i) (t.setMemBit statAddr i) := by
  unfold State.setMemBit
  rw [h.read statAddr (by decide)]
  exact h.poke _ _

theorem clearStat (h : PpuAlike s t) (i : Fin 8) :
    PpuAlike (s.clearMemBit statAddr i) (t.clearMemBit statAddr i) := by
  unfold State.clearMemBit
  rw [h.read statAddr (by decide)]
  exact h.poke _ _

theorem emitFrame (h : PpuAlike s t) : PpuAlike s.emitFrame t.emitFrame :=
  ⟨h.line, h.mode, h.acc, h.fb, by simp [State.emitFrame, h.fb, h.frames], h.read⟩

/-- The addresses the renderer computes are in video RAM (R332). -/
theorem tileAddress_range (u : Bool) (idx : Byte) (k : Nat) (hk : k < 16) :
    0x8000 ≤ (tileAddress u idx + BitVec.ofNat 16 k).toNat ∧
      (tileAddress u idx + BitVec.ofNat 16 k).toNat ≤ 0x97FF := by
  have hi := idx.isLt
  have hm := BitVec.msb_eq_decide idx
  cases u
  · simp [tileAddress, signExtend8, BitVec.toNat_signExtend]
    by_cases h : idx.msb = true
    · rw [h] at hm
      have := of_decide_eq_true hm.symm
      simp only [h, if_true]
      omega
    · rw [Bool.not_eq_true] at h
      rw [h] at hm
      have := of_decide_eq_false hm.symm
      simp only [h, Bool.false_eq_true, if_false]
      omega
  · simp [tileAddress]
    omega

theorem resolve_ne_sc {x : Word} (h : 0x8000 ≤ x.toNat) (h' : x.toNat ≤ 0xDFFF) : resolve x ≠ resolve scAddr := by
  intro he
  rw [ppu_addr_mapped.2.2.2.2.2.2.2.1] at he
  have := resolve_cases he
  omega

theorem tilePixel (h : PpuAlike s t) (lcdc : Byte) (sel : Bool) (cx cy : Nat) (hx : cx < 256) (hy : cy < 256) :
    Machine.tilePixel t lcdc (mapBase sel) cx cy = Machine.tilePixel s lcdc (mapBase sel) cx cy := by
  have hidx : (mapBase sel + BitVec.ofNat 16 (cy / 8 * 32 + cx / 8)).toNat = (mapBase sel).toNat + (cy / 8 * 32 + cx / 8) := by
    rw [BitVec.toNat_add, BitVec.toNat_ofNat]
    have : (mapBase sel).toNat ≤ 0x9C00 := by cases sel <;> decide
    rw [Nat.mod_eq_of_lt (a := _ + cx / 8) (by omega), Nat.mod_eq_of_lt (by omega)]
  have hmap : 0x9800 ≤ (mapBase sel).toNat ∧ (mapBase sel).toNat ≤ 0x9C00 := by cases sel <;> decide
  unfold Machine.tilePixel
  rw [h.read _ (resolve_ne_sc (by omega) (by omega))]
  extract_lets idx row lo hi bit lo' hi'
  have r1 := tileAddress_range (lcdc.getLsbD 4) idx (cy % 8 * 2) (by omega)
  have r2 := tileAddress_range (lcdc.getLsbD 4) idx (cy % 8 * 2 + 1) (by omega)
  have e2 : row + 1 = tileAddress (lcdc.getLsbD 4) idx + BitVec.ofNat 16 (cy % 8 * 2 + 1) := by
    simp only [row, BitVec.add_assoc]
    congr 1
    simp [BitVec.ofNat_add]
  have l1 : lo = lo' := h.read _ (resolve_ne_sc r1.1 (Nat.le_trans r1.2 (by decide)))
  have l2 : hi = hi' := h.read _ (by rw [e2]; exact resolve_ne_sc r2.1 (Nat.le_trans r2.2 (by decide)))
  rw [l1, l2]

theorem linePixel (h : PpuAlike s t) (y x : Nat) (hx : x < 160) (hy : y < 144) :
    Machine.linePixel t y x = Machine.linePixel s y x := by
  have r : ∀ a : Word, a = lcdcAddr ∨ a = scyAddr ∨ a = scxAddr ∨ a = wyAddr ∨ a = wxAddr → t.peek a = s.peek a := by
    rintro a (rfl | rfl | rfl | rfl | rfl) <;> exact h.read _ (by decide)
  have hc : windowCovers t y x = windowCovers s y x := by
    unfold windowCovers; rw [r lcdcAddr (by simp), r wyAddr (by simp), r wxAddr (by simp)]
  unfold Machine.linePixel
  rw [hc]
  split
  · unfold windowPixel
    rw [r lcdcAddr (by simp), r wyAddr (by simp), r wxAddr (by simp)]
    exact h.tilePixel _ _ _ _ (by omega) (by omega)
  · unfold backgroundPixel
    rw [r lcdcAddr (by simp), r scyAddr (by simp), r scxAddr (by simp)]
    exact h.tilePixel _ _ _ _ (Nat.mod_lt _ (by decide)) (Nat.mod_lt _ (by decide))

theorem renderLine (h : PpuAlike s t) (y : Nat) : PpuAlike (s.renderLine y) (t.renderLine y) := by
  unfold State.renderLine
  split
  · rename_i hy
    refine ⟨h.line, h.mode, h.acc, ?_, h.frames, h.read⟩
    simp only [h.fb]
    congr 2
    funext x
    exact h.linePixel y x.val x.isLt hy
  · exact h

theorem leaveMode (h : PpuAlike s t) : PpuAlike s.leaveMode t.leaveMode := by
  have rd : ∀ a : Word, a = statAddr ∨ a = lyAddr ∨ a = lycAddr → ∀ {s t : State}, PpuAlike s t → t.peek a = s.peek a := by
    rintro a (rfl | rfl | rfl) s t h <;> exact h.read _ (by decide)
  have ite : ∀ {p q : Prop} [Decidable p] [Decidable q] {a b c d : State}, (p ↔ q) → PpuAlike a b → PpuAlike c d →
      PpuAlike (if p then a else c) (if q then b else d) := by
    intro p q _ _ a b c d hpq hab hcd
    by_cases hp : p
    · rw [if_pos hp, if_pos (hpq.1 hp)]; exact hab
    · rw [if_neg hp, if_neg (fun hq => hp (hpq.2 hq))]; exact hcd
  unfold State.leaveMode
  rw [h.mode]
  cases s.ppuMode <;> simp only
  · exact h.setMode _
  · unfold State.leaveVRAM
    extract_lets s1 s2 es s3 t1 t2 et t3
    have h1 : PpuAlike s1 t1 := h.setMode _
    have h2 : PpuAlike s2 t2 := ite (by rw [rd statAddr (by simp) h1]) (h1.setIf _) h1
    have he : et = es := by simp only [et, es]; rw [rd lyAddr (by simp) h2, rd lycAddr (by simp) h2]
    have h3 : PpuAlike s3 t3 := ite (by rw [he]) (h2.setStat _) (h2.clearStat _)
    exact ite (by rw [he, rd statAddr (by simp) h3]) (h3.setIf _) h3
  · unfold State.leaveHBlank
    extract_lets s1 s2 t1 t2
    have h1 : PpuAlike s1 t1 := by simp only [s1, t1]; rw [h.line]; exact h.renderLine _
    have h2 : PpuAlike s2 t2 := by simp only [s2, t2]; rw [h1.line]; exact h1.setLine _
    exact ite (by rw [h2.line]) ((h2.setMode _).setIf _) (h2.setMode _)
  · unfold State.leaveVBlank
    extract_lets s1 t1
    have h1 : PpuAlike s1 t1 := by simp only [s1, t1]; rw [h.line]; exact h.setLine _
    exact ite (by rw [h1.line]) ((h1.emitFrame.setLine _).setMode _) h1

theorem tickLoop (n : Nat) (h : PpuAlike s t) : PpuAlike (tickLoop n s) (tickLoop n t) := by
  induction n generalizing s t with
  | zero => exact h
  | succ n ih =>
    simp only [Machine.tickLoop, h.mode, h.acc]
    split
    · refine ih (leaveMode ?_)
      have := h.withAcc (s.ppuAcc - budget s.ppuMode)
      simpa only [State.withAcc, h.mode, h.acc] using this
    · exact h

theorem tick (h : PpuAlike s t) (c : Nat) : PpuAlike (s.tick c) (t.tick c) := by
  unfold State.tick
  rw [h.acc]
  exact (h.withAcc _).tickLoop _

end PpuAlike

end Sys2Proof.Machine
end

