-- ==== Sys2Proof/Laws/Step.lean ====
section
/-!
SUPPORT. What a step can answer, said once (49_machine_step.md rules R351, R352, R354).
-/

namespace Sys2Proof.Machine

theorem stepWith_stopped {s : State} (h : s.stopped = true) (cfg : Config) : stepWith cfg s = .next s := by
  simp [stepWith, h]

/-- A step of a running machine, by what the fetch answers. -/
theorem stepWith_running {s : State} (h : s.stopped = false) (cfg : Config) :
    stepWith cfg s =
      match s.fetch cfg.stopLength with
      | .ok i => cycle cfg i s
      | .error r => .fault r := by
  rw [stepWith, h]; rfl

/-- A step that answers a next state: the run is over, or an instruction was fetched, executed, ticked and tapped. -/
theorem stepWith_next {cfg : Config} {s t : State} (h : stepWith cfg s = .next t) :
    (s.stopped = true ∧ t = s) ∨
      (s.stopped = false ∧ ∃ i u, s.fetch cfg.stopLength = .ok i ∧ exec i s = .next u ∧ t = u.afterExecute cfg i) := by
  cases hs : s.stopped with
  | true =>
    rw [stepWith_stopped hs] at h
    cases h
    exact .inl ⟨rfl, rfl⟩
  | false =>
    rw [stepWith_running hs] at h
    refine .inr ⟨rfl, ?_⟩
    cases hf : s.fetch cfg.stopLength with
    | error r => simp [hf] at h
    | ok i =>
      simp only [hf, cycle] at h
      cases he : exec i s with
      | next u => simp only [he] at h; cases h; exact ⟨i, u, rfl, he, rfl⟩
      | fault r => simp [he] at h
      | refused r => simp [he] at h

/-- A step that faults: the fetch faulted, or the instruction did. -/
theorem stepWith_fault {cfg : Config} {s : State} {r : Fault} (h : stepWith cfg s = .fault r) :
    s.stopped = false ∧ (s.fetch cfg.stopLength = .error r ∨ ∃ i, s.fetch cfg.stopLength = .ok i ∧ exec i s = .fault r) := by
  cases hs : s.stopped with
  | true => rw [stepWith_stopped hs] at h; cases h
  | false =>
    rw [stepWith_running hs] at h
    refine ⟨rfl, ?_⟩
    cases hf : s.fetch cfg.stopLength with
    | error r' => simp only [hf] at h; cases h; exact .inl rfl
    | ok i =>
      simp only [hf, cycle] at h
      cases he : exec i s with
      | next u => simp [he] at h
      | fault r' => simp only [he] at h; cases h; exact .inr ⟨i, rfl, he⟩
      | refused r' => simp [he] at h

/-- No step is refused. -/
theorem stepWith_ne_refused (cfg : Config) (s : State) (r : Refusal) : stepWith cfg s ≠ .refused r := by
  intro h
  cases hs : s.stopped with
  | true => rw [stepWith_stopped hs] at h; cases h
  | false =>
    rw [stepWith_running hs] at h
    cases hf : s.fetch cfg.stopLength with
    | error r' => simp [hf] at h
    | ok i =>
      simp only [hf, cycle] at h
      cases he : exec i s with
      | next u => simp [he] at h
      | fault r' => simp [he] at h
      | refused r' => exact exec_ne_refused i s r' he

/-- The serial tap leaves everything but memory and the text alone. -/
theorem State.serialTap_eq (s : State) (cfg : Config) :
    s.serialTap cfg = { s with mem := (s.serialTap cfg).mem, text := (s.serialTap cfg).text } := by
  rcases State.serialTap_cases s cfg with ⟨_, he⟩ | ⟨_, he⟩
  · rw [he]; conv_lhs => rw [State.poke_eq]
  · rw [he]

/-- What follows the instruction leaves the processor alone (R353). -/
theorem State.afterExecute_eq (s : State) (cfg : Config) (i : Instr) :
    s.afterExecute cfg i =
      { s with
        ppuLine := (s.tick (cost cfg i)).ppuLine
        ppuMode := (s.tick (cost cfg i)).ppuMode
        ppuAcc := (s.tick (cost cfg i)).ppuAcc
        fb := (s.tick (cost cfg i)).fb
        mem := (s.afterExecute cfg i).mem
        text := (s.afterExecute cfg i).text
        frames := (s.tick (cost cfg i)).frames } := by
  have key : ∀ t u : State, OnlyDevices s t → u = { t with mem := u.mem, text := u.text } →
      u = { s with ppuLine := t.ppuLine, ppuMode := t.ppuMode, ppuAcc := t.ppuAcc, fb := t.fb, mem := u.mem,
                   text := u.text, frames := t.frames } := by
    intro t u h1 h2
    unfold OnlyDevices at h1
    cases s; cases t; cases u
    simp only [State.mk.injEq] at *
    simp_all
  exact key _ _ (OnlyDevices.tick s (cost cfg i)) (State.serialTap_eq _ cfg)

end Sys2Proof.Machine
end

