-- ==== Sys2Proof/Laws/Halted.lean ====
section
/-!
SUPPORT. `halted` is read by nothing (10_state.md rule R31, 49_machine_step.md rule R356), said once for each operation:
an operation on the state with another `halted` does what it does on the state, with that `halted` in what it answers.
-/

namespace Sys2Proof.Machine

/-- The state with another `halted`. -/
def State.withHalted (s : State) (x : Bool) : State := { s with halted := x }

/-- The fault with another `halted` in its state. -/
def Fault.withHalted (x : Bool) : Fault → Fault
  | .unmappedAddress a u => .unmappedAddress a (u.withHalted x)
  | .illegalOpcode op u => .illegalOpcode op (u.withHalted x)

/-- The outcome with another `halted` in its state. -/
def withHaltedOutcome (x : Bool) : Result → Result
  | .next t => .next (t.withHalted x)
  | .fault r => .fault (r.withHalted x)
  | .refused r => .refused r

/-- The second answer is the first, with another `halted`. -/
def HaltedAlike (x : Bool) (p q : Except Fault State) : Prop :=
  q = match p with
    | .ok t => .ok (t.withHalted x)
    | .error r => .error (r.withHalted x)

theorem HaltedAlike.outcome {x : Bool} {p q : Except Fault State} (h : HaltedAlike x p q) :
    outcome q = withHaltedOutcome x (outcome p) := by
  unfold HaltedAlike at h
  subst h
  cases p <;> rfl

/-! ### Accesses -/

theorem State.poke_withHalted (s : State) (x : Bool) (a : Word) (v : Byte) :
    (s.withHalted x).poke a v = (s.poke a v).withHalted x := by
  unfold State.poke State.withHalted
  split
  · split <;> rfl
  · rfl

section
variable {x : Bool} {s : State}

theorem HaltedAlike.read {a : Word} {f g : Byte → Except Fault State} (h : ∀ v, HaltedAlike x (f v) (g v)) :
    HaltedAlike x (s.readByte a >>= f) ((s.withHalted x).readByte a >>= g) := by
  unfold State.readByte
  cases resolve a
  · exact rfl
  · exact h _

theorem HaltedAlike.write {a : Word} {v : Byte} {f g : State → Except Fault State}
    (h : ∀ t, HaltedAlike x (f t) (g (t.withHalted x))) :
    HaltedAlike x (s.writeByte a v >>= f) ((s.withHalted x).writeByte a v >>= g) := by
  unfold State.writeByte
  rw [State.poke_withHalted]
  cases resolve a
  · exact rfl
  · exact h _

theorem HaltedAlike.readOperand {o : Operand8} {f g : Byte → Except Fault State}
    (h : ∀ v, HaltedAlike x (f v) (g v)) :
    HaltedAlike x (s.readOperand o >>= f) ((s.withHalted x).readOperand o >>= g) := by
  cases o with
  | reg r => cases r <;> exact h _
  | atHL => exact .read h

theorem HaltedAlike.writeOperand {o : Operand8} {v : Byte} {f g : State → Except Fault State}
    (h : ∀ t, HaltedAlike x (f t) (g (t.withHalted x))) :
    HaltedAlike x (s.writeOperand o v >>= f) ((s.withHalted x).writeOperand o v >>= g) := by
  cases o with
  | reg r => cases r <;> exact h _
  | atHL => exact .write h

theorem HaltedAlike.push {w : Word} {f g : State → Except Fault State}
    (h : ∀ t, HaltedAlike x (f t) (g (t.withHalted x))) :
    HaltedAlike x (s.push16 w >>= f) ((s.withHalted x).push16 w >>= g) := by
  unfold State.push16
  simp only [bind_assoc]
  exact HaltedAlike.write (s := { s with sp := s.sp - 1 }) fun t => .write (s := { t with sp := t.sp - 1 }) h

theorem HaltedAlike.pop {f g : Word × State → Except Fault State}
    (h : ∀ w t, HaltedAlike x (f (w, t)) (g (w, t.withHalted x))) :
    HaltedAlike x (s.pop16 >>= f) ((s.withHalted x).pop16 >>= g) := by
  unfold State.pop16
  simp only [bind_assoc]
  exact .read fun lo => HaltedAlike.read (s := { s with sp := s.sp + 1 }) fun hi =>
    h (joinBytes hi lo) { s with sp := s.sp + 1 + 1 }

end

/-! ### Instructions -/

theorem State.cond_withHalted (s : State) (x : Bool) (cc : Cond) : (s.withHalted x).cond cc = s.cond cc := by
  cases cc <;> rfl

theorem call_withHalted (nn : Word) (s : State) (x : Bool) :
    call nn (s.withHalted x) = withHaltedOutcome x (call nn s) :=
  HaltedAlike.outcome (.push fun _ => rfl)

theorem returnFrom_withHalted (s : State) (x : Bool) :
    returnFrom (s.withHalted x) = withHaltedOutcome x (returnFrom s) :=
  HaltedAlike.outcome (.pop fun _ _ => rfl)

/-- Every instruction but HALT does the same whatever `halted` holds, and keeps it. -/
theorem exec_withHalted {i : Instr} (hi : isHalt i = false) (s : State) (x : Bool) :
    exec i (s.withHalted x) = withHaltedOutcome x (exec i s) := by
  induction i using instr_families with
  | h_halt => cases hi
  | h_stopOf len => cases len <;> rfl
  | h_ldRegReg dst src => cases dst <;> cases src <;> rfl
  | h_ldRegHL dst =>
    simp only [exec_ldRegHL]
    exact HaltedAlike.outcome (.read fun _ => by cases dst <;> rfl)
  | h_ldHLReg src =>
    simp only [exec_ldHLReg]
    cases src <;> exact HaltedAlike.outcome (.write fun _ => rfl)
  | h_ldImm o n =>
    simp only [exec_ldImm]
    exact HaltedAlike.outcome (.writeOperand fun _ => rfl)
  | h_ldAccFrom m =>
    simp only [exec_ldAccFrom]
    cases m <;> exact HaltedAlike.outcome (.read fun _ => rfl)
  | h_ldAccTo m =>
    simp only [exec_ldAccTo]
    cases m <;> exact HaltedAlike.outcome (.write fun _ => rfl)
  | h_ldPairImm p nn => cases p <;> rfl
  | h_push q =>
    simp only [exec_push]
    cases q <;> exact HaltedAlike.outcome (.push fun _ => rfl)
  | h_pop q =>
    simp only [exec_pop]
    cases q <;> exact HaltedAlike.outcome (.pop fun _ _ => rfl)
  | h_alu o x' =>
    simp only [exec_alu]
    cases o <;> exact HaltedAlike.outcome (.readOperand fun _ => rfl)
  | h_aluImm o n => cases o <;> rfl
  | h_inc8 o =>
    simp only [exec_inc8]
    exact HaltedAlike.outcome (.readOperand fun _ => .writeOperand fun _ => rfl)
  | h_dec8 o =>
    simp only [exec_dec8]
    exact HaltedAlike.outcome (.readOperand fun _ => .writeOperand fun _ => rfl)
  | h_incPair p => cases p <;> rfl
  | h_decPair p => cases p <;> rfl
  | h_addHLPair p => cases p <;> rfl
  | h_shift o x' =>
    simp only [exec_shift]
    exact HaltedAlike.outcome (.readOperand fun _ => .writeOperand fun _ => rfl)
  | h_bit8 k o =>
    simp only [exec_bit8]
    exact HaltedAlike.outcome (.readOperand fun _ => rfl)
  | h_res8 k o =>
    simp only [exec_res8]
    exact HaltedAlike.outcome (.readOperand fun _ => .writeOperand fun _ => rfl)
  | h_set8 k o =>
    simp only [exec_set8]
    exact HaltedAlike.outcome (.readOperand fun _ => .writeOperand fun _ => rfl)
  | h_jpCond cc nn =>
    simp only [exec_jpCond, jumpIf, State.cond_withHalted]
    cases s.cond cc <;> rfl
  | h_jrCond cc e =>
    simp only [exec_jrCond, jumpRelativeIf, State.cond_withHalted]
    cases s.cond cc <;> rfl
  | h_callCond cc nn =>
    simp only [exec_callCond, callIf, State.cond_withHalted, call_withHalted]
    cases s.cond cc <;> rfl
  | h_retCond cc =>
    simp only [exec_retCond, returnIf, State.cond_withHalted, returnFrom_withHalted]
    cases s.cond cc <;> rfl
  | h_rst k =>
    simp only [exec_rst]
    exact HaltedAlike.outcome (.push fun _ => rfl)
  | h_ld_atNn_sp nn =>
    refine HaltedAlike.outcome ?_
    unfold State.writeWord
    simp only [bind_assoc]
    exact .write fun _ => .write fun _ => rfl
  | h_call_nn nn => exact call_withHalted nn s x
  | h_ret => exact returnFrom_withHalted s x
  | h_reti => exact returnFrom_withHalted s x
  | _ => rfl

theorem State.fetch_withHalted (s : State) (x : Bool) (len : StopLength) :
    (s.withHalted x).fetch len = (match s.fetch len with
      | .ok i => .ok i
      | .error r => .error (r.withHalted x)) := by
  have hp : ∀ a, (s.withHalted x).peek a = s.peek a := fun _ => rfl
  have hc : (s.withHalted x).pc = s.pc := rfl
  rw [State.fetch_eq, State.fetch_eq]
  simp only [hp, hc]
  split
  · split
    · rfl
    · split <;> rfl
  · rfl

/-! ### The tick and the tap -/

theorem State.setMemBit_withHalted (s : State) (x : Bool) (a : Word) (i : Fin 8) :
    (s.withHalted x).setMemBit a i = (s.setMemBit a i).withHalted x := State.poke_withHalted s x _ _

theorem State.clearMemBit_withHalted (s : State) (x : Bool) (a : Word) (i : Fin 8) :
    (s.withHalted x).clearMemBit a i = (s.clearMemBit a i).withHalted x := State.poke_withHalted s x _ _

theorem State.setMode_withHalted (s : State) (x : Bool) (m : PpuMode) :
    (s.withHalted x).setMode m = (s.setMode m).withHalted x := State.poke_withHalted { s with ppuMode := m } x _ _

theorem State.setLine_withHalted (s : State) (x : Bool) (y : Nat) :
    (s.withHalted x).setLine y = (s.setLine y).withHalted x := State.poke_withHalted { s with ppuLine := y } x _ _

theorem State.renderLine_withHalted (s : State) (x : Bool) (y : Nat) :
    (s.withHalted x).renderLine y = (s.renderLine y).withHalted x := by
  unfold State.renderLine State.withHalted
  split <;> rfl

theorem State.ite_withHalted {p : Prop} [Decidable p] (s t : State) (x : Bool) :
    (if p then s.withHalted x else t.withHalted x) = (if p then s else t).withHalted x := by split <;> rfl

theorem State.peek_withHalted (s : State) (x : Bool) (a : Word) : (s.withHalted x).peek a = s.peek a := rfl

theorem State.emitFrame_withHalted (s : State) (x : Bool) :
    (s.withHalted x).emitFrame = s.emitFrame.withHalted x := rfl

@[simp] theorem State.withHalted_ppuLine (s : State) (x : Bool) : (s.withHalted x).ppuLine = s.ppuLine := rfl
@[simp] theorem State.withHalted_ppuMode (s : State) (x : Bool) : (s.withHalted x).ppuMode = s.ppuMode := rfl
@[simp] theorem State.withHalted_ppuAcc (s : State) (x : Bool) : (s.withHalted x).ppuAcc = s.ppuAcc := rfl

theorem State.leaveMode_withHalted (s : State) (x : Bool) :
    (s.withHalted x).leaveMode = s.leaveMode.withHalted x := by
  cases hm : s.ppuMode <;> simp only [State.leaveMode, State.withHalted_ppuMode, hm]
  · exact State.setMode_withHalted s x _
  · simp only [State.leaveVRAM, State.setMode_withHalted, State.peek_withHalted, State.setMemBit_withHalted,
      State.clearMemBit_withHalted, State.ite_withHalted]
  · simp only [State.leaveHBlank, State.renderLine_withHalted, State.setLine_withHalted, State.setMode_withHalted,
      State.setMemBit_withHalted, State.withHalted_ppuLine, State.ite_withHalted]
  · simp only [State.leaveVBlank, State.emitFrame_withHalted, State.setLine_withHalted, State.setMode_withHalted,
      State.withHalted_ppuLine, State.ite_withHalted]

theorem State.passMode_withHalted (s : State) (x : Bool) :
    (s.withHalted x).passMode = s.passMode.withHalted x :=
  State.leaveMode_withHalted { s with ppuAcc := s.ppuAcc - budget s.ppuMode } x

theorem tickLoop_withHalted (n : Nat) (s : State) (x : Bool) :
    tickLoop n (s.withHalted x) = (tickLoop n s).withHalted x := by
  induction n generalizing s with
  | zero => rfl
  | succ n ih =>
    simp only [tickLoop, State.withHalted_ppuMode, State.withHalted_ppuAcc, State.passMode_withHalted, ih,
      State.ite_withHalted]

theorem State.serialTap_withHalted (s : State) (x : Bool) (cfg : Config) :
    (s.withHalted x).serialTap cfg = (s.serialTap cfg).withHalted x := by
  unfold State.serialTap
  rw [State.peek_withHalted, State.peek_withHalted]
  by_cases h : s.peek scAddr = cfg.serialSentinel
  · rw [if_pos h, if_pos h]
    exact State.poke_withHalted { s with text := s.text ++ [s.peek sbAddr] } x _ _
  · rw [if_neg h, if_neg h]

/-- What follows an instruction does the same whatever `halted` holds, and keeps it. -/
theorem State.afterExecute_withHalted (s : State) (x : Bool) (cfg : Config) (i : Instr) :
    (s.withHalted x).afterExecute cfg i = (s.afterExecute cfg i).withHalted x := by
  have h : (s.withHalted x).tick (cost cfg i) = (s.tick (cost cfg i)).withHalted x :=
    tickLoop_withHalted _ { s with ppuAcc := s.ppuAcc + cost cfg i } x
  unfold State.afterExecute
  rw [h, State.serialTap_withHalted]

end Sys2Proof.Machine
end

