-- ==== Sys2Proof/Laws/Operands.lean ====
section
/-!
SUPPORT. What reading and writing an operand does, and what a write of the flags cell leaves, in the words of
Sys2Proof/Safety.lean: a proof about an instruction cites these and unfolds no operand (30_encoding.md rules R95 and R96,
10_state.md rules R25 and R26).
-/

namespace Sys2Proof.Machine

/-! ### The frame words -/

theorem SameOutside.refl (s : State) : SameOutside s s := ⟨rfl, rfl, rfl, rfl, rfl, rfl, rfl, rfl⟩

theorem SameOutside.trans {s t u : State} (h : SameOutside s t) (k : SameOutside t u) : SameOutside s u :=
  ⟨k.stopped.trans h.stopped, k.halted.trans h.halted, k.ppuLine.trans h.ppuLine, k.ppuMode.trans h.ppuMode,
    k.ppuAcc.trans h.ppuAcc, k.fb.trans h.fb, k.text.trans h.text, k.frames.trans h.frames⟩

theorem SameOutside.advance (s : State) (n : Nat) : SameOutside s (s.advance n) := ⟨rfl, rfl, rfl, rfl, rfl, rfl, rfl, rfl⟩

theorem SameOutside.setFlags (s : State) (g : Flags) : SameOutside s (s.setFlags g) :=
  ⟨rfl, rfl, rfl, rfl, rfl, rfl, rfl, rfl⟩

theorem SameOutside.setReg (s : State) (r : Reg8) (v : Byte) : SameOutside s (s.setReg r v) := by
  constructor <;> simp

theorem SameOutside.setPair (s : State) (p : Pair) (w : Word) : SameOutside s (s.setPair p w) := by
  constructor <;> simp

theorem SameOutside.setStackPair (s : State) (q : StackPair) (w : Word) : SameOutside s (s.setStackPair q w) := by
  constructor <;> simp

theorem SameOutside.poke (s : State) (a : Word) (v : Byte) : SameOutside s (s.poke a v) := by
  constructor <;> simp

theorem SameOutside.accAfter (s : State) (m : AccAddr) : SameOutside s (s.accAfter m) := by
  constructor <;> simp

theorem SameOutside.alu (s : State) (o : AluOp) (v : Byte) : SameOutside s (s.alu o v) := by
  constructor <;> simp

/-- A store, and then a change of something else than memory. -/
theorem Stored.congr {s t u : State} {a : Word} {v : Byte} (h : Stored s t a v) (hm : u.mem = t.mem) :
    Stored s u a v :=
  ⟨fun x hx => (State.peek_congr hm x).trans (h.1 x hx), fun x hx => (State.peek_congr hm x).trans (h.2 x hx)⟩

theorem StoredWord.congr {s t u : State} {a w : Word} (h : StoredWord s t a w) (hm : u.mem = t.mem) :
    StoredWord s u a w :=
  ⟨fun x hx => (State.peek_congr hm x).trans (h.1 x hx), fun x hx => (State.peek_congr hm x).trans (h.2.1 x hx),
    fun x hx hx' => (State.peek_congr hm x).trans (h.2.2 x hx hx')⟩

theorem OperandWritten.congr {s t u : State} {x : Operand8} {v : Byte} (h : OperandWritten s t x v)
    (hr : ∀ r, u.reg r = t.reg r) (hm : u.mem = t.mem) : OperandWritten s u x v := by
  cases x with
  | reg r => exact ⟨fun r' => (hr r').trans (h.1 r'), fun a => (State.peek_congr hm a).trans (h.2 a)⟩
  | atHL => exact ⟨fun r' => (hr r').trans (h.1 r'), h.2.congr hm⟩

/-! ### Operands -/

/-- Reading an operand that can be read. -/
theorem State.readOperand_ok {s : State} {x : Operand8} {v : Byte} (h : OperandIs s x v) :
    s.readOperand x = .ok v := by
  cases x with
  | reg r => exact congrArg Except.ok h
  | atHL => rw [← h.2]; exact State.readByte_mapped h.1

/-- Writing an operand that can be written: the operand, and nothing else, holds the byte. -/
theorem State.writeOperand_ok (s : State) (x : Operand8) (v : Byte) (h : x = .atHL → Mapped s.hl) :
    ∃ t, s.writeOperand x v = .ok t ∧ OperandWritten s t x v ∧ t.f = s.f ∧ t.sp = s.sp ∧ t.pc = s.pc ∧
      SameOutside s t := by
  cases x with
  | reg r => exact ⟨_, rfl, ⟨fun r' => by simp, fun a => by simp⟩, by simp, by simp, by simp, .setReg s r v⟩
  | atHL =>
    exact ⟨_, State.writeByte_mapped (h rfl) v, ⟨fun r => by simp, State.stored_poke s (h rfl) v⟩, by simp, by simp,
      by simp, .poke s _ v⟩

theorem OperandIs.mapped {s : State} {x : Operand8} {v : Byte} (h : OperandIs s x v) : x = .atHL → Mapped s.hl := by
  rintro rfl; exact h.1

theorem onlyPair_setPair (s : State) (p : Pair) (w : Word) : OnlyPair s (s.setPair p w) p w := by
  cases p <;> exact ⟨fun r => by cases r <;> rfl, rfl⟩

theorem highPage_eq (n : Byte) : highPage n = 0xFF00 + n.setWidth 16 := by revert n; decide

/-- The high page is mapped (R371). -/
theorem highPage_mapped (n : Byte) : Mapped (highPage n) := by revert n; decide

/-! ### Flags and nibbles -/

/-- The four flags of a state whose flags cell was written whole. -/
theorem flagsAre_of {s : State} {g : Flags} (h : s.f = g.toByte) : FlagsAre s g.z g.n g.h g.c := by
  rcases g with ⟨_ | _, _ | _, _ | _, _ | _⟩ <;>
    constructor <;> simp only [State.flagZ, State.flagN, State.flagH, State.flagC, h] <;> decide

theorem cond_iff (s : State) (cc : Cond) : s.cond cc = true ↔ CondHolds s cc := by
  cases cc <;> simp [State.cond, CondHolds, State.flagZ, State.flagC]

theorem lowNibble_eq (v : Byte) : lowNibble v = v.toNat % 16 := by revert v; decide

theorem and_0F_toNat (w : Word) : (w &&& 0x0F).toNat = w.toNat % 16 := by
  rw [BitVec.toNat_and]; exact Nat.and_two_pow_sub_one_eq_mod w.toNat 4

theorem and_FF_toNat (w : Word) : (w &&& 0xFF).toNat = w.toNat % 256 := by
  rw [BitVec.toNat_and]; exact Nat.and_two_pow_sub_one_eq_mod w.toNat 8

theorem and_0FFF_toNat (w : Word) : (w &&& 0x0FFF).toNat = w.toNat % 4096 := by
  rw [BitVec.toNat_and]; exact Nat.and_two_pow_sub_one_eq_mod w.toNat 12

theorem byte_eq_zero_iff (v : Byte) : v = 0 ↔ v.toNat = 0 := by revert v; decide

end Sys2Proof.Machine
end

