-- ==== Sys2Proof/Tests/Slice0.lean ====
section
/-!
SUPPORT. Tests of the model and witnesses of the statements. What a test expects comes from the spec: the words of the
opcode table (30_encoding.md rules R94, R95, R102, opcode_table.json) and the vectors of 95_test_vectors.md, whose id
stands in the test's name. A witness shows a state and operands that meet all hypotheses of the statement it is named
after, at boundary values.
-/

namespace Sys2Proof.Tests

open Sys2Proof Sys2Proof.Machine

/-! ### Helpers -/

/-- Bytes placed by the host, in ROM too. -/
def withBytes (cells : List (Word × Byte)) (s : State) : State := cells.foldl (fun s c => s.plant c.1 c.2) s

/-- Instruction bytes placed at pc. -/
def withCode (code : List Byte) (s : State) : State :=
  withBytes (code.zipIdx.map fun c => (s.pc + BitVec.ofNat 16 c.2, c.1)) s

/-- The step answers a next state with the property. -/
def stepGives (s : State) (p : State → Bool) : Bool :=
  match step s with
  | .next t => p t
  | _ => false

/-- The step reports an unmapped address, in a state with the property. -/
def stepFaults (s : State) (addr : Word) (p : State → Bool) : Bool :=
  match step s with
  | .fault (.unmappedAddress a u) => a == addr && p u
  | _ => false

/-! ### WellFormed: ILLEGAL is accepted with the eleven bytes alone (R105), STOP with the length STOP_LEN (R282) -/

theorem test_wf_accepts_unassigned_byte : (Instr.illegal 0xDD).wf .two = true := by decide

theorem test_wf_refuses_assigned_byte : (Instr.illegal 0x00).wf .two = false ∧
    (Instr.illegal 0xCB).wf .two = false := by decide

theorem test_wf_stop_length : Instr.stopOneByte.wf .one = true ∧ Instr.stop.wf .two = true ∧
    Instr.stopOneByte.wf .two = false ∧ Instr.stop.wf .one = false := by decide

theorem test_wf_accepts_eleven : ((List.range 256).filter fun n => (Instr.illegal (BitVec.ofNat 8 n)).wf .two) =
    [0xD3, 0xDB, 0xDD, 0xE3, 0xE4, 0xEB, 0xEC, 0xED, 0xF4, 0xFC, 0xFD] := by decide

/-! ### Decoding: the word of every row of the opcode table (R94, R102); operand bytes 0x34 0x12 -/

theorem test_decode_0x :
    decodeBytes .two 0x00 0x34 0x12 = .nop ∧
    decodeBytes .two 0x01 0x34 0x12 = .ld_bc_nn 0x1234 ∧
    decodeBytes .two 0x02 0x34 0x12 = .ld_atBC_a ∧
    decodeBytes .two 0x03 0x34 0x12 = .inc_bc ∧
    decodeBytes .two 0x04 0x34 0x12 = .inc_b ∧
    decodeBytes .two 0x05 0x34 0x12 = .dec_b ∧
    decodeBytes .two 0x06 0x34 0x12 = .ld_b_n 0x34 ∧
    decodeBytes .two 0x07 0x34 0x12 = .rlca ∧
    decodeBytes .two 0x08 0x34 0x12 = .ld_atNn_sp 0x1234 ∧
    decodeBytes .two 0x09 0x34 0x12 = .add_hl_bc ∧
    decodeBytes .two 0x0A 0x34 0x12 = .ld_a_atBC ∧
    decodeBytes .two 0x0B 0x34 0x12 = .dec_bc ∧
    decodeBytes .two 0x0C 0x34 0x12 = .inc_c ∧
    decodeBytes .two 0x0D 0x34 0x12 = .dec_c ∧
    decodeBytes .two 0x0E 0x34 0x12 = .ld_c_n 0x34 ∧
    decodeBytes .two 0x0F 0x34 0x12 = .rrca := by decide

theorem test_decode_1x :
    decodeBytes .two 0x10 0x34 0x12 = .stop ∧
    decodeBytes .two 0x11 0x34 0x12 = .ld_de_nn 0x1234 ∧
    decodeBytes .two 0x12 0x34 0x12 = .ld_atDE_a ∧
    decodeBytes .two 0x13 0x34 0x12 = .inc_de ∧
    decodeBytes .two 0x14 0x34 0x12 = .inc_d ∧
    decodeBytes .two 0x15 0x34 0x12 = .dec_d ∧
    decodeBytes .two 0x16 0x34 0x12 = .ld_d_n 0x34 ∧
    decodeBytes .two 0x17 0x34 0x12 = .rla ∧
    decodeBytes .two 0x18 0x34 0x12 = .jr_e 0x34 ∧
    decodeBytes .two 0x19 0x34 0x12 = .add_hl_de ∧
    decodeBytes .two 0x1A 0x34 0x12 = .ld_a_atDE ∧
    decodeBytes .two 0x1B 0x34 0x12 = .dec_de ∧
    decodeBytes .two 0x1C 0x34 0x12 = .inc_e ∧
    decodeBytes .two 0x1D 0x34 0x12 = .dec_e ∧
    decodeBytes .two 0x1E 0x34 0x12 = .ld_e_n 0x34 ∧
    decodeBytes .two 0x1F 0x34 0x12 = .rra := by decide

theorem test_decode_2x :
    decodeBytes .two 0x20 0x34 0x12 = .jr_nz_e 0x34 ∧
    decodeBytes .two 0x21 0x34 0x12 = .ld_hl_nn 0x1234 ∧
    decodeBytes .two 0x22 0x34 0x12 = .ld_atHLinc_a ∧
    decodeBytes .two 0x23 0x34 0x12 = .inc_hl ∧
    decodeBytes .two 0x24 0x34 0x12 = .inc_h ∧
    decodeBytes .two 0x25 0x34 0x12 = .dec_h ∧
    decodeBytes .two 0x26 0x34 0x12 = .ld_h_n 0x34 ∧
    decodeBytes .two 0x27 0x34 0x12 = .daa ∧
    decodeBytes .two 0x28 0x34 0x12 = .jr_z_e 0x34 ∧
    decodeBytes .two 0x29 0x34 0x12 = .add_hl_hl ∧
    decodeBytes .two 0x2A 0x34 0x12 = .ld_a_atHLinc ∧
    decodeBytes .two 0x2B 0x34 0x12 = .dec_hl ∧
    decodeBytes .two 0x2C 0x34 0x12 = .inc_l ∧
    decodeBytes .two 0x2D 0x34 0x12 = .dec_l ∧
    decodeBytes .two 0x2E 0x34 0x12 = .ld_l_n 0x34 ∧
    decodeBytes .two 0x2F 0x34 0x12 = .cpl := by decide

theorem test_decode_3x :
    decodeBytes .two 0x30 0x34 0x12 = .jr_nc_e 0x34 ∧
    decodeBytes .two 0x31 0x34 0x12 = .ld_sp_nn 0x1234 ∧
    decodeBytes .two 0x32 0x34 0x12 = .ld_atHLdec_a ∧
    decodeBytes .two 0x33 0x34 0x12 = .inc_sp ∧
    decodeBytes .two 0x34 0x34 0x12 = .inc_atHL ∧
    decodeBytes .two 0x35 0x34 0x12 = .dec_atHL ∧
    decodeBytes .two 0x36 0x34 0x12 = .ld_atHL_n 0x34 ∧
    decodeBytes .two 0x37 0x34 0x12 = .scf ∧
    decodeBytes .two 0x38 0x34 0x12 = .jr_c_e 0x34 ∧
    decodeBytes .two 0x39 0x34 0x12 = .add_hl_sp ∧
    decodeBytes .two 0x3A 0x34 0x12 = .ld_a_atHLdec ∧
    decodeBytes .two 0x3B 0x34 0x12 = .dec_sp ∧
    decodeBytes .two 0x3C 0x34 0x12 = .inc_a ∧
    decodeBytes .two 0x3D 0x34 0x12 = .dec_a ∧
    decodeBytes .two 0x3E 0x34 0x12 = .ld_a_n 0x34 ∧
    decodeBytes .two 0x3F 0x34 0x12 = .ccf := by decide

theorem test_decode_4x :
    decodeBytes .two 0x40 0x34 0x12 = .ld_b_b ∧
    decodeBytes .two 0x41 0x34 0x12 = .ld_b_c ∧
    decodeBytes .two 0x42 0x34 0x12 = .ld_b_d ∧
    decodeBytes .two 0x43 0x34 0x12 = .ld_b_e ∧
    decodeBytes .two 0x44 0x34 0x12 = .ld_b_h ∧
    decodeBytes .two 0x45 0x34 0x12 = .ld_b_l ∧
    decodeBytes .two 0x46 0x34 0x12 = .ld_b_atHL ∧
    decodeBytes .two 0x47 0x34 0x12 = .ld_b_a ∧
    decodeBytes .two 0x48 0x34 0x12 = .ld_c_b ∧
    decodeBytes .two 0x49 0x34 0x12 = .ld_c_c ∧
    decodeBytes .two 0x4A 0x34 0x12 = .ld_c_d ∧
    decodeBytes .two 0x4B 0x34 0x12 = .ld_c_e ∧
    decodeBytes .two 0x4C 0x34 0x12 = .ld_c_h ∧
    decodeBytes .two 0x4D 0x34 0x12 = .ld_c_l ∧
    decodeBytes .two 0x4E 0x34 0x12 = .ld_c_atHL ∧
    decodeBytes .two 0x4F 0x34 0x12 = .ld_c_a := by decide

theorem test_decode_5x :
    decodeBytes .two 0x50 0x34 0x12 = .ld_d_b ∧
    decodeBytes .two 0x51 0x34 0x12 = .ld_d_c ∧
    decodeBytes .two 0x52 0x34 0x12 = .ld_d_d ∧
    decodeBytes .two 0x53 0x34 0x12 = .ld_d_e ∧
    decodeBytes .two 0x54 0x34 0x12 = .ld_d_h ∧
    decodeBytes .two 0x55 0x34 0x12 = .ld_d_l ∧
    decodeBytes .two 0x56 0x34 0x12 = .ld_d_atHL ∧
    decodeBytes .two 0x57 0x34 0x12 = .ld_d_a ∧
    decodeBytes .two 0x58 0x34 0x12 = .ld_e_b ∧
    decodeBytes .two 0x59 0x34 0x12 = .ld_e_c ∧
    decodeBytes .two 0x5A 0x34 0x12 = .ld_e_d ∧
    decodeBytes .two 0x5B 0x34 0x12 = .ld_e_e ∧
    decodeBytes .two 0x5C 0x34 0x12 = .ld_e_h ∧
    decodeBytes .two 0x5D 0x34 0x12 = .ld_e_l ∧
    decodeBytes .two 0x5E 0x34 0x12 = .ld_e_atHL ∧
    decodeBytes .two 0x5F 0x34 0x12 = .ld_e_a := by decide

theorem test_decode_6x :
    decodeBytes .two 0x60 0x34 0x12 = .ld_h_b ∧
    decodeBytes .two 0x61 0x34 0x12 = .ld_h_c ∧
    decodeBytes .two 0x62 0x34 0x12 = .ld_h_d ∧
    decodeBytes .two 0x63 0x34 0x12 = .ld_h_e ∧
    decodeBytes .two 0x64 0x34 0x12 = .ld_h_h ∧
    decodeBytes .two 0x65 0x34 0x12 = .ld_h_l ∧
    decodeBytes .two 0x66 0x34 0x12 = .ld_h_atHL ∧
    decodeBytes .two 0x67 0x34 0x12 = .ld_h_a ∧
    decodeBytes .two 0x68 0x34 0x12 = .ld_l_b ∧
    decodeBytes .two 0x69 0x34 0x12 = .ld_l_c ∧
    decodeBytes .two 0x6A 0x34 0x12 = .ld_l_d ∧
    decodeBytes .two 0x6B 0x34 0x12 = .ld_l_e ∧
    decodeBytes .two 0x6C 0x34 0x12 = .ld_l_h ∧
    decodeBytes .two 0x6D 0x34 0x12 = .ld_l_l ∧
    decodeBytes .two 0x6E 0x34 0x12 = .ld_l_atHL ∧
    decodeBytes .two 0x6F 0x34 0x12 = .ld_l_a := by decide

theorem test_decode_7x :
    decodeBytes .two 0x70 0x34 0x12 = .ld_atHL_b ∧
    decodeBytes .two 0x71 0x34 0x12 = .ld_atHL_c ∧
    decodeBytes .two 0x72 0x34 0x12 = .ld_atHL_d ∧
    decodeBytes .two 0x73 0x34 0x12 = .ld_atHL_e ∧
    decodeBytes .two 0x74 0x34 0x12 = .ld_atHL_h ∧
    decodeBytes .two 0x75 0x34 0x12 = .ld_atHL_l ∧
    decodeBytes .two 0x76 0x34 0x12 = .halt ∧
    decodeBytes .two 0x77 0x34 0x12 = .ld_atHL_a ∧
    decodeBytes .two 0x78 0x34 0x12 = .ld_a_b ∧
    decodeBytes .two 0x79 0x34 0x12 = .ld_a_c ∧
    decodeBytes .two 0x7A 0x34 0x12 = .ld_a_d ∧
    decodeBytes .two 0x7B 0x34 0x12 = .ld_a_e ∧
    decodeBytes .two 0x7C 0x34 0x12 = .ld_a_h ∧
    decodeBytes .two 0x7D 0x34 0x12 = .ld_a_l ∧
    decodeBytes .two 0x7E 0x34 0x12 = .ld_a_atHL ∧
    decodeBytes .two 0x7F 0x34 0x12 = .ld_a_a := by decide

theorem test_decode_8x :
    decodeBytes .two 0x80 0x34 0x12 = .add_a_b ∧
    decodeBytes .two 0x81 0x34 0x12 = .add_a_c ∧
    decodeBytes .two 0x82 0x34 0x12 = .add_a_d ∧
    decodeBytes .two 0x83 0x34 0x12 = .add_a_e ∧
    decodeBytes .two 0x84 0x34 0x12 = .add_a_h ∧
    decodeBytes .two 0x85 0x34 0x12 = .add_a_l ∧
    decodeBytes .two 0x86 0x34 0x12 = .add_a_atHL ∧
    decodeBytes .two 0x87 0x34 0x12 = .add_a_a ∧
    decodeBytes .two 0x88 0x34 0x12 = .adc_a_b ∧
    decodeBytes .two 0x89 0x34 0x12 = .adc_a_c ∧
    decodeBytes .two 0x8A 0x34 0x12 = .adc_a_d ∧
    decodeBytes .two 0x8B 0x34 0x12 = .adc_a_e ∧
    decodeBytes .two 0x8C 0x34 0x12 = .adc_a_h ∧
    decodeBytes .two 0x8D 0x34 0x12 = .adc_a_l ∧
    decodeBytes .two 0x8E 0x34 0x12 = .adc_a_atHL ∧
    decodeBytes .two 0x8F 0x34 0x12 = .adc_a_a := by decide

theorem test_decode_9x :
    decodeBytes .two 0x90 0x34 0x12 = .sub_b ∧
    decodeBytes .two 0x91 0x34 0x12 = .sub_c ∧
    decodeBytes .two 0x92 0x34 0x12 = .sub_d ∧
    decodeBytes .two 0x93 0x34 0x12 = .sub_e ∧
    decodeBytes .two 0x94 0x34 0x12 = .sub_h ∧
    decodeBytes .two 0x95 0x34 0x12 = .sub_l ∧
    decodeBytes .two 0x96 0x34 0x12 = .sub_atHL ∧
    decodeBytes .two 0x97 0x34 0x12 = .sub_a ∧
    decodeBytes .two 0x98 0x34 0x12 = .sbc_a_b ∧
    decodeBytes .two 0x99 0x34 0x12 = .sbc_a_c ∧
    decodeBytes .two 0x9A 0x34 0x12 = .sbc_a_d ∧
    decodeBytes .two 0x9B 0x34 0x12 = .sbc_a_e ∧
    decodeBytes .two 0x9C 0x34 0x12 = .sbc_a_h ∧
    decodeBytes .two 0x9D 0x34 0x12 = .sbc_a_l ∧
    decodeBytes .two 0x9E 0x34 0x12 = .sbc_a_atHL ∧
    decodeBytes .two 0x9F 0x34 0x12 = .sbc_a_a := by decide

theorem test_decode_Ax :
    decodeBytes .two 0xA0 0x34 0x12 = .and_b ∧
    decodeBytes .two 0xA1 0x34 0x12 = .and_c ∧
    decodeBytes .two 0xA2 0x34 0x12 = .and_d ∧
    decodeBytes .two 0xA3 0x34 0x12 = .and_e ∧
    decodeBytes .two 0xA4 0x34 0x12 = .and_h ∧
    decodeBytes .two 0xA5 0x34 0x12 = .and_l ∧
    decodeBytes .two 0xA6 0x34 0x12 = .and_atHL ∧
    decodeBytes .two 0xA7 0x34 0x12 = .and_a ∧
    decodeBytes .two 0xA8 0x34 0x12 = .xor_b ∧
    decodeBytes .two 0xA9 0x34 0x12 = .xor_c ∧
    decodeBytes .two 0xAA 0x34 0x12 = .xor_d ∧
    decodeBytes .two 0xAB 0x34 0x12 = .xor_e ∧
    decodeBytes .two 0xAC 0x34 0x12 = .xor_h ∧
    decodeBytes .two 0xAD 0x34 0x12 = .xor_l ∧
    decodeBytes .two 0xAE 0x34 0x12 = .xor_atHL ∧
    decodeBytes .two 0xAF 0x34 0x12 = .xor_a := by decide

theorem test_decode_Bx :
    decodeBytes .two 0xB0 0x34 0x12 = .or_b ∧
    decodeBytes .two 0xB1 0x34 0x12 = .or_c ∧
    decodeBytes .two 0xB2 0x34 0x12 = .or_d ∧
    decodeBytes .two 0xB3 0x34 0x12 = .or_e ∧
    decodeBytes .two 0xB4 0x34 0x12 = .or_h ∧
    decodeBytes .two 0xB5 0x34 0x12 = .or_l ∧
    decodeBytes .two 0xB6 0x34 0x12 = .or_atHL ∧
    decodeBytes .two 0xB7 0x34 0x12 = .or_a ∧
    decodeBytes .two 0xB8 0x34 0x12 = .cp_b ∧
    decodeBytes .two 0xB9 0x34 0x12 = .cp_c ∧
    decodeBytes .two 0xBA 0x34 0x12 = .cp_d ∧
    decodeBytes .two 0xBB 0x34 0x12 = .cp_e ∧
    decodeBytes .two 0xBC 0x34 0x12 = .cp_h ∧
    decodeBytes .two 0xBD 0x34 0x12 = .cp_l ∧
    decodeBytes .two 0xBE 0x34 0x12 = .cp_atHL ∧
    decodeBytes .two 0xBF 0x34 0x12 = .cp_a := by decide

theorem test_decode_Cx :
    decodeBytes .two 0xC0 0x34 0x12 = .ret_nz ∧
    decodeBytes .two 0xC1 0x34 0x12 = .pop_bc ∧
    decodeBytes .two 0xC2 0x34 0x12 = .jp_nz_nn 0x1234 ∧
    decodeBytes .two 0xC3 0x34 0x12 = .jp_nn 0x1234 ∧
    decodeBytes .two 0xC4 0x34 0x12 = .call_nz_nn 0x1234 ∧
    decodeBytes .two 0xC5 0x34 0x12 = .push_bc ∧
    decodeBytes .two 0xC6 0x34 0x12 = .add_a_n 0x34 ∧
    decodeBytes .two 0xC7 0x34 0x12 = .rst_00 ∧
    decodeBytes .two 0xC8 0x34 0x12 = .ret_z ∧
    decodeBytes .two 0xC9 0x34 0x12 = .ret ∧
    decodeBytes .two 0xCA 0x34 0x12 = .jp_z_nn 0x1234 ∧
    decodeBytes .two 0xCC 0x34 0x12 = .call_z_nn 0x1234 ∧
    decodeBytes .two 0xCD 0x34 0x12 = .call_nn 0x1234 ∧
    decodeBytes .two 0xCE 0x34 0x12 = .adc_a_n 0x34 ∧
    decodeBytes .two 0xCF 0x34 0x12 = .rst_08 := by decide

theorem test_decode_Dx :
    decodeBytes .two 0xD0 0x34 0x12 = .ret_nc ∧
    decodeBytes .two 0xD1 0x34 0x12 = .pop_de ∧
    decodeBytes .two 0xD2 0x34 0x12 = .jp_nc_nn 0x1234 ∧
    decodeBytes .two 0xD3 0x34 0x12 = .illegal 0xD3 ∧
    decodeBytes .two 0xD4 0x34 0x12 = .call_nc_nn 0x1234 ∧
    decodeBytes .two 0xD5 0x34 0x12 = .push_de ∧
    decodeBytes .two 0xD6 0x34 0x12 = .sub_n 0x34 ∧
    decodeBytes .two 0xD7 0x34 0x12 = .rst_10 ∧
    decodeBytes .two 0xD8 0x34 0x12 = .ret_c ∧
    decodeBytes .two 0xD9 0x34 0x12 = .reti ∧
    decodeBytes .two 0xDA 0x34 0x12 = .jp_c_nn 0x1234 ∧
    decodeBytes .two 0xDB 0x34 0x12 = .illegal 0xDB ∧
    decodeBytes .two 0xDC 0x34 0x12 = .call_c_nn 0x1234 ∧
    decodeBytes .two 0xDD 0x34 0x12 = .illegal 0xDD ∧
    decodeBytes .two 0xDE 0x34 0x12 = .sbc_a_n 0x34 ∧
    decodeBytes .two 0xDF 0x34 0x12 = .rst_18 := by decide

theorem test_decode_Ex :
    decodeBytes .two 0xE0 0x34 0x12 = .ldh_atN_a 0x34 ∧
    decodeBytes .two 0xE1 0x34 0x12 = .pop_hl ∧
    decodeBytes .two 0xE2 0x34 0x12 = .ld_atC_a ∧
    decodeBytes .two 0xE3 0x34 0x12 = .illegal 0xE3 ∧
    decodeBytes .two 0xE4 0x34 0x12 = .illegal 0xE4 ∧
    decodeBytes .two 0xE5 0x34 0x12 = .push_hl ∧
    decodeBytes .two 0xE6 0x34 0x12 = .and_n 0x34 ∧
    decodeBytes .two 0xE7 0x34 0x12 = .rst_20 ∧
    decodeBytes .two 0xE8 0x34 0x12 = .add_sp_e 0x34 ∧
    decodeBytes .two 0xE9 0x34 0x12 = .jp_atHL ∧
    decodeBytes .two 0xEA 0x34 0x12 = .ld_atNn_a 0x1234 ∧
    decodeBytes .two 0xEB 0x34 0x12 = .illegal 0xEB ∧
    decodeBytes .two 0xEC 0x34 0x12 = .illegal 0xEC ∧
    decodeBytes .two 0xED 0x34 0x12 = .illegal 0xED ∧
    decodeBytes .two 0xEE 0x34 0x12 = .xor_n 0x34 ∧
    decodeBytes .two 0xEF 0x34 0x12 = .rst_28 := by decide

theorem test_decode_Fx :
    decodeBytes .two 0xF0 0x34 0x12 = .ldh_a_atN 0x34 ∧
    decodeBytes .two 0xF1 0x34 0x12 = .pop_af ∧
    decodeBytes .two 0xF2 0x34 0x12 = .ld_a_atC ∧
    decodeBytes .two 0xF3 0x34 0x12 = .di ∧
    decodeBytes .two 0xF4 0x34 0x12 = .illegal 0xF4 ∧
    decodeBytes .two 0xF5 0x34 0x12 = .push_af ∧
    decodeBytes .two 0xF6 0x34 0x12 = .or_n 0x34 ∧
    decodeBytes .two 0xF7 0x34 0x12 = .rst_30 ∧
    decodeBytes .two 0xF8 0x34 0x12 = .ld_hl_spPlusE 0x34 ∧
    decodeBytes .two 0xF9 0x34 0x12 = .ld_sp_hl ∧
    decodeBytes .two 0xFA 0x34 0x12 = .ld_a_atNn 0x1234 ∧
    decodeBytes .two 0xFB 0x34 0x12 = .ei ∧
    decodeBytes .two 0xFC 0x34 0x12 = .illegal 0xFC ∧
    decodeBytes .two 0xFD 0x34 0x12 = .illegal 0xFD ∧
    decodeBytes .two 0xFE 0x34 0x12 = .cp_n 0x34 ∧
    decodeBytes .two 0xFF 0x34 0x12 = .rst_38 := by decide

theorem test_decode_CB_0x :
    decodeBytes .two 0xCB 0x00 0x12 = .rlc_b ∧
    decodeBytes .two 0xCB 0x01 0x12 = .rlc_c ∧
    decodeBytes .two 0xCB 0x02 0x12 = .rlc_d ∧
    decodeBytes .two 0xCB 0x03 0x12 = .rlc_e ∧
    decodeBytes .two 0xCB 0x04 0x12 = .rlc_h ∧
    decodeBytes .two 0xCB 0x05 0x12 = .rlc_l ∧
    decodeBytes .two 0xCB 0x06 0x12 = .rlc_atHL ∧
    decodeBytes .two 0xCB 0x07 0x12 = .rlc_a ∧
    decodeBytes .two 0xCB 0x08 0x12 = .rrc_b ∧
    decodeBytes .two 0xCB 0x09 0x12 = .rrc_c ∧
    decodeBytes .two 0xCB 0x0A 0x12 = .rrc_d ∧
    decodeBytes .two 0xCB 0x0B 0x12 = .rrc_e ∧
    decodeBytes .two 0xCB 0x0C 0x12 = .rrc_h ∧
    decodeBytes .two 0xCB 0x0D 0x12 = .rrc_l ∧
    decodeBytes .two 0xCB 0x0E 0x12 = .rrc_atHL ∧
    decodeBytes .two 0xCB 0x0F 0x12 = .rrc_a := by decide

theorem test_decode_CB_1x :
    decodeBytes .two 0xCB 0x10 0x12 = .rl_b ∧
    decodeBytes .two 0xCB 0x11 0x12 = .rl_c ∧
    decodeBytes .two 0xCB 0x12 0x12 = .rl_d ∧
    decodeBytes .two 0xCB 0x13 0x12 = .rl_e ∧
    decodeBytes .two 0xCB 0x14 0x12 = .rl_h ∧
    decodeBytes .two 0xCB 0x15 0x12 = .rl_l ∧
    decodeBytes .two 0xCB 0x16 0x12 = .rl_atHL ∧
    decodeBytes .two 0xCB 0x17 0x12 = .rl_a ∧
    decodeBytes .two 0xCB 0x18 0x12 = .rr_b ∧
    decodeBytes .two 0xCB 0x19 0x12 = .rr_c ∧
    decodeBytes .two 0xCB 0x1A 0x12 = .rr_d ∧
    decodeBytes .two 0xCB 0x1B 0x12 = .rr_e ∧
    decodeBytes .two 0xCB 0x1C 0x12 = .rr_h ∧
    decodeBytes .two 0xCB 0x1D 0x12 = .rr_l ∧
    decodeBytes .two 0xCB 0x1E 0x12 = .rr_atHL ∧
    decodeBytes .two 0xCB 0x1F 0x12 = .rr_a := by decide

theorem test_decode_CB_2x :
    decodeBytes .two 0xCB 0x20 0x12 = .sla_b ∧
    decodeBytes .two 0xCB 0x21 0x12 = .sla_c ∧
    decodeBytes .two 0xCB 0x22 0x12 = .sla_d ∧
    decodeBytes .two 0xCB 0x23 0x12 = .sla_e ∧
    decodeBytes .two 0xCB 0x24 0x12 = .sla_h ∧
    decodeBytes .two 0xCB 0x25 0x12 = .sla_l ∧
    decodeBytes .two 0xCB 0x26 0x12 = .sla_atHL ∧
    decodeBytes .two 0xCB 0x27 0x12 = .sla_a ∧
    decodeBytes .two 0xCB 0x28 0x12 = .sra_b ∧
    decodeBytes .two 0xCB 0x29 0x12 = .sra_c ∧
    decodeBytes .two 0xCB 0x2A 0x12 = .sra_d ∧
    decodeBytes .two 0xCB 0x2B 0x12 = .sra_e ∧
    decodeBytes .two 0xCB 0x2C 0x12 = .sra_h ∧
    decodeBytes .two 0xCB 0x2D 0x12 = .sra_l ∧
    decodeBytes .two 0xCB 0x2E 0x12 = .sra_atHL ∧
    decodeBytes .two 0xCB 0x2F 0x12 = .sra_a := by decide

theorem test_decode_CB_3x :
    decodeBytes .two 0xCB 0x30 0x12 = .swap_b ∧
    decodeBytes .two 0xCB 0x31 0x12 = .swap_c ∧
    decodeBytes .two 0xCB 0x32 0x12 = .swap_d ∧
    decodeBytes .two 0xCB 0x33 0x12 = .swap_e ∧
    decodeBytes .two 0xCB 0x34 0x12 = .swap_h ∧
    decodeBytes .two 0xCB 0x35 0x12 = .swap_l ∧
    decodeBytes .two 0xCB 0x36 0x12 = .swap_atHL ∧
    decodeBytes .two 0xCB 0x37 0x12 = .swap_a ∧
    decodeBytes .two 0xCB 0x38 0x12 = .srl_b ∧
    decodeBytes .two 0xCB 0x39 0x12 = .srl_c ∧
    decodeBytes .two 0xCB 0x3A 0x12 = .srl_d ∧
    decodeBytes .two 0xCB 0x3B 0x12 = .srl_e ∧
    decodeBytes .two 0xCB 0x3C 0x12 = .srl_h ∧
    decodeBytes .two 0xCB 0x3D 0x12 = .srl_l ∧
    decodeBytes .two 0xCB 0x3E 0x12 = .srl_atHL ∧
    decodeBytes .two 0xCB 0x3F 0x12 = .srl_a := by decide

theorem test_decode_CB_4x :
    decodeBytes .two 0xCB 0x40 0x12 = .bit_0_b ∧
    decodeBytes .two 0xCB 0x41 0x12 = .bit_0_c ∧
    decodeBytes .two 0xCB 0x42 0x12 = .bit_0_d ∧
    decodeBytes .two 0xCB 0x43 0x12 = .bit_0_e ∧
    decodeBytes .two 0xCB 0x44 0x12 = .bit_0_h ∧
    decodeBytes .two 0xCB 0x45 0x12 = .bit_0_l ∧
    decodeBytes .two 0xCB 0x46 0x12 = .bit_0_atHL ∧
    decodeBytes .two 0xCB 0x47 0x12 = .bit_0_a ∧
    decodeBytes .two 0xCB 0x48 0x12 = .bit_1_b ∧
    decodeBytes .two 0xCB 0x49 0x12 = .bit_1_c ∧
    decodeBytes .two 0xCB 0x4A 0x12 = .bit_1_d ∧
    decodeBytes .two 0xCB 0x4B 0x12 = .bit_1_e ∧
    decodeBytes .two 0xCB 0x4C 0x12 = .bit_1_h ∧
    decodeBytes .two 0xCB 0x4D 0x12 = .bit_1_l ∧
    decodeBytes .two 0xCB 0x4E 0x12 = .bit_1_atHL ∧
    decodeBytes .two 0xCB 0x4F 0x12 = .bit_1_a := by decide

theorem test_decode_CB_5x :
    decodeBytes .two 0xCB 0x50 0x12 = .bit_2_b ∧
    decodeBytes .two 0xCB 0x51 0x12 = .bit_2_c ∧
    decodeBytes .two 0xCB 0x52 0x12 = .bit_2_d ∧
    decodeBytes .two 0xCB 0x53 0x12 = .bit_2_e ∧
    decodeBytes .two 0xCB 0x54 0x12 = .bit_2_h ∧
    decodeBytes .two 0xCB 0x55 0x12 = .bit_2_l ∧
    decodeBytes .two 0xCB 0x56 0x12 = .bit_2_atHL ∧
    decodeBytes .two 0xCB 0x57 0x12 = .bit_2_a ∧
    decodeBytes .two 0xCB 0x58 0x12 = .bit_3_b ∧
    decodeBytes .two 0xCB 0x59 0x12 = .bit_3_c ∧
    decodeBytes .two 0xCB 0x5A 0x12 = .bit_3_d ∧
    decodeBytes .two 0xCB 0x5B 0x12 = .bit_3_e ∧
    decodeBytes .two 0xCB 0x5C 0x12 = .bit_3_h ∧
    decodeBytes .two 0xCB 0x5D 0x12 = .bit_3_l ∧
    decodeBytes .two 0xCB 0x5E 0x12 = .bit_3_atHL ∧
    decodeBytes .two 0xCB 0x5F 0x12 = .bit_3_a := by decide

theorem test_decode_CB_6x :
    decodeBytes .two 0xCB 0x60 0x12 = .bit_4_b ∧
    decodeBytes .two 0xCB 0x61 0x12 = .bit_4_c ∧
    decodeBytes .two 0xCB 0x62 0x12 = .bit_4_d ∧
    decodeBytes .two 0xCB 0x63 0x12 = .bit_4_e ∧
    decodeBytes .two 0xCB 0x64 0x12 = .bit_4_h ∧
    decodeBytes .two 0xCB 0x65 0x12 = .bit_4_l ∧
    decodeBytes .two 0xCB 0x66 0x12 = .bit_4_atHL ∧
    decodeBytes .two 0xCB 0x67 0x12 = .bit_4_a ∧
    decodeBytes .two 0xCB 0x68 0x12 = .bit_5_b ∧
    decodeBytes .two 0xCB 0x69 0x12 = .bit_5_c ∧
    decodeBytes .two 0xCB 0x6A 0x12 = .bit_5_d ∧
    decodeBytes .two 0xCB 0x6B 0x12 = .bit_5_e ∧
    decodeBytes .two 0xCB 0x6C 0x12 = .bit_5_h ∧
    decodeBytes .two 0xCB 0x6D 0x12 = .bit_5_l ∧
    decodeBytes .two 0xCB 0x6E 0x12 = .bit_5_atHL ∧
    decodeBytes .two 0xCB 0x6F 0x12 = .bit_5_a := by decide

theorem test_decode_CB_7x :
    decodeBytes .two 0xCB 0x70 0x12 = .bit_6_b ∧
    decodeBytes .two 0xCB 0x71 0x12 = .bit_6_c ∧
    decodeBytes .two 0xCB 0x72 0x12 = .bit_6_d ∧
    decodeBytes .two 0xCB 0x73 0x12 = .bit_6_e ∧
    decodeBytes .two 0xCB 0x74 0x12 = .bit_6_h ∧
    decodeBytes .two 0xCB 0x75 0x12 = .bit_6_l ∧
    decodeBytes .two 0xCB 0x76 0x12 = .bit_6_atHL ∧
    decodeBytes .two 0xCB 0x77 0x12 = .bit_6_a ∧
    decodeBytes .two 0xCB 0x78 0x12 = .bit_7_b ∧
    decodeBytes .two 0xCB 0x79 0x12 = .bit_7_c ∧
    decodeBytes .two 0xCB 0x7A 0x12 = .bit_7_d ∧
    decodeBytes .two 0xCB 0x7B 0x12 = .bit_7_e ∧
    decodeBytes .two 0xCB 0x7C 0x12 = .bit_7_h ∧
    decodeBytes .two 0xCB 0x7D 0x12 = .bit_7_l ∧
    decodeBytes .two 0xCB 0x7E 0x12 = .bit_7_atHL ∧
    decodeBytes .two 0xCB 0x7F 0x12 = .bit_7_a := by decide

theorem test_decode_CB_8x :
    decodeBytes .two 0xCB 0x80 0x12 = .res_0_b ∧
    decodeBytes .two 0xCB 0x81 0x12 = .res_0_c ∧
    decodeBytes .two 0xCB 0x82 0x12 = .res_0_d ∧
    decodeBytes .two 0xCB 0x83 0x12 = .res_0_e ∧
    decodeBytes .two 0xCB 0x84 0x12 = .res_0_h ∧
    decodeBytes .two 0xCB 0x85 0x12 = .res_0_l ∧
    decodeBytes .two 0xCB 0x86 0x12 = .res_0_atHL ∧
    decodeBytes .two 0xCB 0x87 0x12 = .res_0_a ∧
    decodeBytes .two 0xCB 0x88 0x12 = .res_1_b ∧
    decodeBytes .two 0xCB 0x89 0x12 = .res_1_c ∧
    decodeBytes .two 0xCB 0x8A 0x12 = .res_1_d ∧
    decodeBytes .two 0xCB 0x8B 0x12 = .res_1_e ∧
    decodeBytes .two 0xCB 0x8C 0x12 = .res_1_h ∧
    decodeBytes .two 0xCB 0x8D 0x12 = .res_1_l ∧
    decodeBytes .two 0xCB 0x8E 0x12 = .res_1_atHL ∧
    decodeBytes .two 0xCB 0x8F 0x12 = .res_1_a := by decide

theorem test_decode_CB_9x :
    decodeBytes .two 0xCB 0x90 0x12 = .res_2_b ∧
    decodeBytes .two 0xCB 0x91 0x12 = .res_2_c ∧
    decodeBytes .two 0xCB 0x92 0x12 = .res_2_d ∧
    decodeBytes .two 0xCB 0x93 0x12 = .res_2_e ∧
    decodeBytes .two 0xCB 0x94 0x12 = .res_2_h ∧
    decodeBytes .two 0xCB 0x95 0x12 = .res_2_l ∧
    decodeBytes .two 0xCB 0x96 0x12 = .res_2_atHL ∧
    decodeBytes .two 0xCB 0x97 0x12 = .res_2_a ∧
    decodeBytes .two 0xCB 0x98 0x12 = .res_3_b ∧
    decodeBytes .two 0xCB 0x99 0x12 = .res_3_c ∧
    decodeBytes .two 0xCB 0x9A 0x12 = .res_3_d ∧
    decodeBytes .two 0xCB 0x9B 0x12 = .res_3_e ∧
    decodeBytes .two 0xCB 0x9C 0x12 = .res_3_h ∧
    decodeBytes .two 0xCB 0x9D 0x12 = .res_3_l ∧
    decodeBytes .two 0xCB 0x9E 0x12 = .res_3_atHL ∧
    decodeBytes .two 0xCB 0x9F 0x12 = .res_3_a := by decide

theorem test_decode_CB_Ax :
    decodeBytes .two 0xCB 0xA0 0x12 = .res_4_b ∧
    decodeBytes .two 0xCB 0xA1 0x12 = .res_4_c ∧
    decodeBytes .two 0xCB 0xA2 0x12 = .res_4_d ∧
    decodeBytes .two 0xCB 0xA3 0x12 = .res_4_e ∧
    decodeBytes .two 0xCB 0xA4 0x12 = .res_4_h ∧
    decodeBytes .two 0xCB 0xA5 0x12 = .res_4_l ∧
    decodeBytes .two 0xCB 0xA6 0x12 = .res_4_atHL ∧
    decodeBytes .two 0xCB 0xA7 0x12 = .res_4_a ∧
    decodeBytes .two 0xCB 0xA8 0x12 = .res_5_b ∧
    decodeBytes .two 0xCB 0xA9 0x12 = .res_5_c ∧
    decodeBytes .two 0xCB 0xAA 0x12 = .res_5_d ∧
    decodeBytes .two 0xCB 0xAB 0x12 = .res_5_e ∧
    decodeBytes .two 0xCB 0xAC 0x12 = .res_5_h ∧
    decodeBytes .two 0xCB 0xAD 0x12 = .res_5_l ∧
    decodeBytes .two 0xCB 0xAE 0x12 = .res_5_atHL ∧
    decodeBytes .two 0xCB 0xAF 0x12 = .res_5_a := by decide

theorem test_decode_CB_Bx :
    decodeBytes .two 0xCB 0xB0 0x12 = .res_6_b ∧
    decodeBytes .two 0xCB 0xB1 0x12 = .res_6_c ∧
    decodeBytes .two 0xCB 0xB2 0x12 = .res_6_d ∧
    decodeBytes .two 0xCB 0xB3 0x12 = .res_6_e ∧
    decodeBytes .two 0xCB 0xB4 0x12 = .res_6_h ∧
    decodeBytes .two 0xCB 0xB5 0x12 = .res_6_l ∧
    decodeBytes .two 0xCB 0xB6 0x12 = .res_6_atHL ∧
    decodeBytes .two 0xCB 0xB7 0x12 = .res_6_a ∧
    decodeBytes .two 0xCB 0xB8 0x12 = .res_7_b ∧
    decodeBytes .two 0xCB 0xB9 0x12 = .res_7_c ∧
    decodeBytes .two 0xCB 0xBA 0x12 = .res_7_d ∧
    decodeBytes .two 0xCB 0xBB 0x12 = .res_7_e ∧
    decodeBytes .two 0xCB 0xBC 0x12 = .res_7_h ∧
    decodeBytes .two 0xCB 0xBD 0x12 = .res_7_l ∧
    decodeBytes .two 0xCB 0xBE 0x12 = .res_7_atHL ∧
    decodeBytes .two 0xCB 0xBF 0x12 = .res_7_a := by decide

theorem test_decode_CB_Cx :
    decodeBytes .two 0xCB 0xC0 0x12 = .set_0_b ∧
    decodeBytes .two 0xCB 0xC1 0x12 = .set_0_c ∧
    decodeBytes .two 0xCB 0xC2 0x12 = .set_0_d ∧
    decodeBytes .two 0xCB 0xC3 0x12 = .set_0_e ∧
    decodeBytes .two 0xCB 0xC4 0x12 = .set_0_h ∧
    decodeBytes .two 0xCB 0xC5 0x12 = .set_0_l ∧
    decodeBytes .two 0xCB 0xC6 0x12 = .set_0_atHL ∧
    decodeBytes .two 0xCB 0xC7 0x12 = .set_0_a ∧
    decodeBytes .two 0xCB 0xC8 0x12 = .set_1_b ∧
    decodeBytes .two 0xCB 0xC9 0x12 = .set_1_c ∧
    decodeBytes .two 0xCB 0xCA 0x12 = .set_1_d ∧
    decodeBytes .two 0xCB 0xCB 0x12 = .set_1_e ∧
    decodeBytes .two 0xCB 0xCC 0x12 = .set_1_h ∧
    decodeBytes .two 0xCB 0xCD 0x12 = .set_1_l ∧
    decodeBytes .two 0xCB 0xCE 0x12 = .set_1_atHL ∧
    decodeBytes .two 0xCB 0xCF 0x12 = .set_1_a := by decide

theorem test_decode_CB_Dx :
    decodeBytes .two 0xCB 0xD0 0x12 = .set_2_b ∧
    decodeBytes .two 0xCB 0xD1 0x12 = .set_2_c ∧
    decodeBytes .two 0xCB 0xD2 0x12 = .set_2_d ∧
    decodeBytes .two 0xCB 0xD3 0x12 = .set_2_e ∧
    decodeBytes .two 0xCB 0xD4 0x12 = .set_2_h ∧
    decodeBytes .two 0xCB 0xD5 0x12 = .set_2_l ∧
    decodeBytes .two 0xCB 0xD6 0x12 = .set_2_atHL ∧
    decodeBytes .two 0xCB 0xD7 0x12 = .set_2_a ∧
    decodeBytes .two 0xCB 0xD8 0x12 = .set_3_b ∧
    decodeBytes .two 0xCB 0xD9 0x12 = .set_3_c ∧
    decodeBytes .two 0xCB 0xDA 0x12 = .set_3_d ∧
    decodeBytes .two 0xCB 0xDB 0x12 = .set_3_e ∧
    decodeBytes .two 0xCB 0xDC 0x12 = .set_3_h ∧
    decodeBytes .two 0xCB 0xDD 0x12 = .set_3_l ∧
    decodeBytes .two 0xCB 0xDE 0x12 = .set_3_atHL ∧
    decodeBytes .two 0xCB 0xDF 0x12 = .set_3_a := by decide

theorem test_decode_CB_Ex :
    decodeBytes .two 0xCB 0xE0 0x12 = .set_4_b ∧
    decodeBytes .two 0xCB 0xE1 0x12 = .set_4_c ∧
    decodeBytes .two 0xCB 0xE2 0x12 = .set_4_d ∧
    decodeBytes .two 0xCB 0xE3 0x12 = .set_4_e ∧
    decodeBytes .two 0xCB 0xE4 0x12 = .set_4_h ∧
    decodeBytes .two 0xCB 0xE5 0x12 = .set_4_l ∧
    decodeBytes .two 0xCB 0xE6 0x12 = .set_4_atHL ∧
    decodeBytes .two 0xCB 0xE7 0x12 = .set_4_a ∧
    decodeBytes .two 0xCB 0xE8 0x12 = .set_5_b ∧
    decodeBytes .two 0xCB 0xE9 0x12 = .set_5_c ∧
    decodeBytes .two 0xCB 0xEA 0x12 = .set_5_d ∧
    decodeBytes .two 0xCB 0xEB 0x12 = .set_5_e ∧
    decodeBytes .two 0xCB 0xEC 0x12 = .set_5_h ∧
    decodeBytes .two 0xCB 0xED 0x12 = .set_5_l ∧
    decodeBytes .two 0xCB 0xEE 0x12 = .set_5_atHL ∧
    decodeBytes .two 0xCB 0xEF 0x12 = .set_5_a := by decide

theorem test_decode_CB_Fx :
    decodeBytes .two 0xCB 0xF0 0x12 = .set_6_b ∧
    decodeBytes .two 0xCB 0xF1 0x12 = .set_6_c ∧
    decodeBytes .two 0xCB 0xF2 0x12 = .set_6_d ∧
    decodeBytes .two 0xCB 0xF3 0x12 = .set_6_e ∧
    decodeBytes .two 0xCB 0xF4 0x12 = .set_6_h ∧
    decodeBytes .two 0xCB 0xF5 0x12 = .set_6_l ∧
    decodeBytes .two 0xCB 0xF6 0x12 = .set_6_atHL ∧
    decodeBytes .two 0xCB 0xF7 0x12 = .set_6_a ∧
    decodeBytes .two 0xCB 0xF8 0x12 = .set_7_b ∧
    decodeBytes .two 0xCB 0xF9 0x12 = .set_7_c ∧
    decodeBytes .two 0xCB 0xFA 0x12 = .set_7_d ∧
    decodeBytes .two 0xCB 0xFB 0x12 = .set_7_e ∧
    decodeBytes .two 0xCB 0xFC 0x12 = .set_7_h ∧
    decodeBytes .two 0xCB 0xFD 0x12 = .set_7_l ∧
    decodeBytes .two 0xCB 0xFE 0x12 = .set_7_atHL ∧
    decodeBytes .two 0xCB 0xFF 0x12 = .set_7_a := by decide

/-- A word bit by bit: LD D,H is 01 ddd sss with d = 010 and s = 100; SBC A,(HL) is 10 ooo sss with o = 011 and s = 110;
BIT 5,E is 0xCB and 01 bbb sss with b = 101 and s = 011; JP C,nn is 110 cc 010 with cc = 11, then nn low byte first (R95,
R100 to R102). -/
theorem test_decode_bits :
    decode .two [0b01010100] = .ok (.ld_d_h, []) ∧ decode .two [0b10011110] = .ok (.sbc_a_atHL, []) ∧
    decode .two [0xCB, 0b01101011] = .ok (.bit_5_e, []) ∧
    decode .two [0b11011010, 0xCD, 0xAB] = .ok (.jp_c_nn 0xABCD, []) := by
  decide

theorem test_decode_refuses_short_input :
    decode .two [] = .error .empty ∧ decode .two [0xCB] = .error (.truncated 0xCB) ∧
    decode .two [0xC3, 0x00] = .error (.truncated 0xC3) ∧ decode .two [0x10] = .error (.truncated 0x10) := by decide

/-- STOP_LEN = 1: the format of STOP is OP, and only that of STOP changes (R92, R282, D4). -/
theorem test_decode_stop_length_one :
    decode .one [0x10, 0x00] = .ok (.stopOneByte, [0x00]) ∧ decode .one [0x18, 0x00] = .ok (.jr_e 0x00, []) ∧
    instrLength .one 0x10 = 1 ∧ instrLength .two 0x10 = 2 := by decide

/-- The table writes a CB row as `byte0 ++ byte1`, 0xCB in bits 15:8; the other numbering is read too (log entry 8). -/
theorem test_table_word :
    decodeTableWord 16 0xCB37 = some .swap_a ∧ decodeTableWord 16 0x37CB = some .swap_a ∧ decodeTableWord 8 0x76 = some .halt ∧
    decodeTableWord 24 0x1234C3 = some (.jp_nn 0x1234) ∧ decodeTableWord 16 0x0010 = some .stop := by decide

/-- A planted word is the one the next step runs, from reset too (log entry 9). -/
theorem test_withFetchWord :
    stepGives (State.reset.withFetchWord 16 0x423E) (fun t => t.a == 0x42 && t.pc == 0x0102) = true := by
  decide

/-- STOP_LEN = 1: pc moves past the opcode byte alone, and the run is over (R282). -/
theorem test_stop_length_one :
    (match stepWith { standardConfig with stopLength := .one } (withCode [0x10, 0x00] State.reset) with
      | .next t => t.pc == 0x0101 && t.stopped
      | _ => false) = true := by decide

/-! ### One step each, from the vectors of 95_test_vectors.md -/

/-- LD A,B (R120). -/
theorem test_B_40_1 :
    stepGives (withCode [0x78] { State.reset with b := 0x12 })
      (fun t => t.a == 0x12 && t.f == 0xB0 && t.pc == 0x0101 && t.ppuAcc == 1) = true := by
  decide

/-- LD A,(HL) (R121). -/
theorem test_B_40_4 :
    stepGives (withBytes [(0xC000, 0x5A)] (withCode [0x7E] { State.reset with h := 0xC0, l := 0x00 }))
      (fun t => t.a == 0x5A && t.f == 0xB0 && t.pc == 0x0101 && t.ppuAcc == 2) = true := by
  decide

/-- LD (HL),A (R122). -/
theorem test_B_40_7 :
    stepGives (withCode [0x77] { State.reset with h := 0xC0, l := 0x10, a := 0x99 })
      (fun t => t.f == 0xB0 && t.pc == 0x0101 && t.peek 0xC010 == 0x99 && t.ppuAcc == 2) = true := by
  decide

/-- LD A,n (R123). -/
theorem test_B_40_11 :
    stepGives (withCode [0x3E, 0x42] State.reset)
      (fun t => t.a == 0x42 && t.f == 0xB0 && t.pc == 0x0102 && t.ppuAcc == 2) = true := by
  decide

/-- LD (HL),n (R124). -/
theorem test_B_40_13 :
    stepGives (withCode [0x36, 0xAB] { State.reset with h := 0xC1, l := 0x23 })
      (fun t => t.f == 0xB0 && t.pc == 0x0102 && t.peek 0xC123 == 0xAB && t.ppuAcc == 3) = true := by
  decide

/-- LD A,(BC) (R125). -/
theorem test_B_40_14 :
    stepGives (withBytes [(0xC005, 0x77)] (withCode [0x0A] { State.reset with b := 0xC0, c := 0x05 }))
      (fun t => t.a == 0x77 && t.f == 0xB0 && t.pc == 0x0101 && t.ppuAcc == 2) = true := by
  decide

/-- LD A,(DE) (R126). -/
theorem test_B_40_15 :
    stepGives (withBytes [(0x8000, 0x3C)] (withCode [0x1A] { State.reset with d := 0x80, e := 0x00 }))
      (fun t => t.a == 0x3C && t.f == 0xB0 && t.pc == 0x0101 && t.ppuAcc == 2) = true := by
  decide

/-- LD (BC),A (R127). -/
theorem test_B_40_16 :
    stepGives (withCode [0x02] { State.reset with b := 0xC1, c := 0x00, a := 0x01 })
      (fun t => t.f == 0xB0 && t.pc == 0x0101 && t.peek 0xC100 == 0x01 && t.ppuAcc == 2) = true := by
  decide

/-- LD (DE),A (R128). -/
theorem test_B_40_17 :
    stepGives (withCode [0x12] { State.reset with d := 0xFF, e := 0x80, a := 0xEE })
      (fun t => t.f == 0xB0 && t.pc == 0x0101 && t.peek 0xFF80 == 0xEE && t.ppuAcc == 2) = true := by
  decide

/-- LD A,(nn) (R129). -/
theorem test_B_40_18 :
    stepGives (withBytes [(0xC234, 0x11)] (withCode [0xFA, 0x34, 0xC2] State.reset))
      (fun t => t.a == 0x11 && t.f == 0xB0 && t.pc == 0x0103 && t.ppuAcc == 4) = true := by
  decide

/-- LD A,(nn) unmapped (R129). -/
theorem test_B_40_19 :
    stepFaults (withCode [0xFA, 0xFF, 0xFE] State.reset) 0xFEFF
      (fun t => t.f == 0xB0 && t.pc == 0x0100) = true := by
  decide

/-- LD (nn),A (R130). -/
theorem test_B_40_20 :
    stepGives (withCode [0xEA, 0x00, 0xD0] { State.reset with a := 0x42 })
      (fun t => t.f == 0xB0 && t.pc == 0x0103 && t.peek 0xD000 == 0x42 && t.ppuAcc == 4) = true := by
  decide

/-- LDH (n),A (R132). -/
theorem test_B_40_22 :
    stepGives (withCode [0xE0, 0x01] { State.reset with a := 0x48 })
      (fun t => t.f == 0xB0 && t.pc == 0x0102 && t.peek 0xFF01 == 0x48 && t.ppuAcc == 3) = true := by
  decide

/-- LDH A,(n) (R131). -/
theorem test_B_40_23 :
    stepGives (withBytes [(0xFF44, 0x90)] (withCode [0xF0, 0x44] State.reset))
      (fun t => t.a == 0x90 && t.f == 0xB0 && t.pc == 0x0102 && t.ppuAcc == 3) = true := by
  decide

/-- LD (C),A (R134). -/
theorem test_B_40_24 :
    stepGives (withCode [0xE2] { State.reset with c := 0x42, a := 0x10 })
      (fun t => t.f == 0xB0 && t.pc == 0x0101 && t.peek 0xFF42 == 0x10 && t.ppuAcc == 2) = true := by
  decide

/-- LD A,(C) (R133). -/
theorem test_B_40_25 :
    stepGives (withBytes [(0xFF80, 0x07)] (withCode [0xF2] { State.reset with c := 0x80 }))
      (fun t => t.a == 0x07 && t.f == 0xB0 && t.pc == 0x0101 && t.ppuAcc == 2) = true := by
  decide

/-- LD (HL+),A (R135). -/
theorem test_B_40_26 :
    stepGives (withCode [0x22] { State.reset with h := 0xC0, l := 0x00, a := 0xAA })
      (fun t => t.l == 0x01 && t.f == 0xB0 && t.pc == 0x0101 && t.peek 0xC000 == 0xAA && t.ppuAcc == 2) = true := by
  decide

/-- LD A,(HL+) (R136). -/
theorem test_B_40_28 :
    stepGives (withBytes [(0xC0FF, 0x01)] (withCode [0x2A] { State.reset with h := 0xC0, l := 0xFF }))
      (fun t => t.h == 0xC1 && t.l == 0x00 && t.f == 0xB0 && t.pc == 0x0101 && t.ppuAcc == 2) = true := by
  decide

/-- LD (HL-),A (R137). -/
theorem test_B_40_29 :
    stepGives (withBytes [(0x9FFF, 0x55)] (withCode [0x32] { State.reset with h := 0x9F, l := 0xFF, a := 0x00 }))
      (fun t => t.l == 0xFE && t.f == 0xB0 && t.pc == 0x0101 && t.peek 0x9FFF == 0x00 && t.ppuAcc == 2) = true := by
  decide

/-- LD A,(HL-) (R138). -/
theorem test_B_40_30 :
    stepGives (withBytes [(0xC100, 0x7F)] (withCode [0x3A] { State.reset with h := 0xC1, l := 0x00 }))
      (fun t => t.a == 0x7F && t.h == 0xC0 && t.l == 0xFF && t.f == 0xB0 && t.pc == 0x0101 && t.ppuAcc == 2) = true := by
  decide

/-- LD BC,nn (R152). -/
theorem test_B_41_1 :
    stepGives (withCode [0x01, 0x34, 0x12] State.reset)
      (fun t => t.b == 0x12 && t.c == 0x34 && t.f == 0xB0 && t.pc == 0x0103 && t.ppuAcc == 3) = true := by
  decide

/-- LD (nn),SP (R153). -/
theorem test_B_41_4 :
    stepGives (withCode [0x08, 0x00, 0xC1] { State.reset with sp := 0xFFF8 })
      (fun t => t.f == 0xB0 && t.pc == 0x0103 && t.peek 0xC100 == 0xF8 && t.peek 0xC101 == 0xFF && t.ppuAcc == 5) = true := by
  decide

/-- LD (nn),SP half in gap (R153). -/
theorem test_B_41_5 :
    stepFaults (withCode [0x08, 0x9F, 0xFE] { State.reset with sp := 0x1234 }) 0xFEA0
      (fun t => t.f == 0xB0 && t.pc == 0x0100 && t.peek 0xFE9F == 0x34) = true := by
  decide

/-- LD SP,HL (R154). -/
theorem test_B_41_6 :
    stepGives (withCode [0xF9] { State.reset with h := 0xDF, l := 0xFF })
      (fun t => t.f == 0xB0 && t.sp == 0xDFFF && t.pc == 0x0101 && t.ppuAcc == 2) = true := by
  decide

/-- LD HL,SP+e (R155). -/
theorem test_B_41_7 :
    stepGives (withCode [0xF8, 0x08] { State.reset with sp := 0xFFF8 })
      (fun t => t.h == 0x00 && t.l == 0x00 && t.f == 0x30 && t.pc == 0x0102 && t.ppuAcc == 3) = true := by
  decide

/-- LD HL,SP+e (R155). -/
theorem test_B_41_10 :
    stepGives (withCode [0xF8, 0x80] { State.reset with sp := 0xD080 })
      (fun t => t.h == 0xD0 && t.l == 0x00 && t.f == 0x10 && t.pc == 0x0102 && t.ppuAcc == 3) = true := by
  decide

/-- PUSH BC (R156). -/
theorem test_B_41_11 :
    stepGives (withCode [0xC5] { State.reset with b := 0x12, c := 0x34 })
      (fun t => t.f == 0xB0 && t.sp == 0xFFFC && t.pc == 0x0101 && t.peek 0xFFFC == 0x34 && t.peek 0xFFFD == 0x12 && t.ppuAcc == 4) = true := by
  decide

/-- PUSH DE into gap (R156). -/
theorem test_B_41_14 :
    stepFaults (withCode [0xD5] { State.reset with d := 0xAB, e := 0xCD, sp := 0xFEA1 }) 0xFEA0
      (fun t => t.f == 0xB0 && t.sp == 0xFEA0 && t.pc == 0x0100) = true := by
  decide

/-- PUSH AF (R157). -/
theorem test_B_41_12 :
    stepGives (withCode [0xF5] State.reset)
      (fun t => t.f == 0xB0 && t.sp == 0xFFFC && t.pc == 0x0101 && t.peek 0xFFFC == 0xB0 && t.peek 0xFFFD == 0x01 && t.ppuAcc == 4) = true := by
  decide

/-- POP DE (R158). -/
theorem test_B_41_15 :
    stepGives (withBytes [(0xC000, 0x34), (0xC001, 0x12)] (withCode [0xD1] { State.reset with sp := 0xC000 }))
      (fun t => t.d == 0x12 && t.e == 0x34 && t.f == 0xB0 && t.sp == 0xC002 && t.pc == 0x0101 && t.ppuAcc == 3) = true := by
  decide

/-- POP AF (R159). -/
theorem test_B_41_16 :
    stepGives (withBytes [(0xC000, 0x5F), (0xC001, 0x9A)] (withCode [0xF1] { State.reset with sp := 0xC000 }))
      (fun t => t.a == 0x9A && t.f == 0x50 && t.sp == 0xC002 && t.pc == 0x0101 && t.ppuAcc == 3) = true := by
  decide

/-- ADD A,B (R172). -/
theorem test_B_42_1 :
    stepGives (withCode [0x80] { State.reset with a := 0xFF, b := 0x01 })
      (fun t => t.a == 0x00 && t.f == 0xB0 && t.pc == 0x0101 && t.ppuAcc == 1) = true := by
  decide

/-- ADD A,(HL) (R172). -/
theorem test_B_42_4 :
    stepGives (withBytes [(0xC000, 0x12)] (withCode [0x86] { State.reset with a := 0x3C, h := 0xC0, l := 0x00 }))
      (fun t => t.a == 0x4E && t.f == 0x00 && t.pc == 0x0101 && t.ppuAcc == 2) = true := by
  decide

/-- ADC A,E (R173). -/
theorem test_B_42_5 :
    stepGives (withCode [0x8B] { State.reset with a := 0xE1, e := 0x0F, f := 0x10 })
      (fun t => t.a == 0xF1 && t.f == 0x20 && t.pc == 0x0101 && t.ppuAcc == 1) = true := by
  decide

/-- ADC A,B (R173). -/
theorem test_B_42_9 :
    stepGives (withCode [0x88] { State.reset with a := 0x00, b := 0xFF, f := 0x00 })
      (fun t => t.a == 0xFF && t.f == 0x00 && t.pc == 0x0101 && t.ppuAcc == 1) = true := by
  decide

/-- SUB B (R174). -/
theorem test_B_42_10 :
    stepGives (withCode [0x90] { State.reset with a := 0x00, b := 0x01 })
      (fun t => t.a == 0xFF && t.f == 0x70 && t.pc == 0x0101 && t.ppuAcc == 1) = true := by
  decide

/-- SUB B (R174). -/
theorem test_B_42_13 :
    stepGives (withCode [0x90] { State.reset with a := 0x3E, b := 0x40 })
      (fun t => t.a == 0xFE && t.f == 0x50 && t.pc == 0x0101 && t.ppuAcc == 1) = true := by
  decide

/-- SBC A,H (R175). -/
theorem test_B_42_14 :
    stepGives (withCode [0x9C] { State.reset with a := 0x3B, h := 0x2A, f := 0x10 })
      (fun t => t.a == 0x10 && t.f == 0x40 && t.pc == 0x0101 && t.ppuAcc == 1) = true := by
  decide

/-- SBC A,A (R175). -/
theorem test_B_42_19 :
    stepGives (withCode [0x9F] { State.reset with a := 0x42, f := 0x10 })
      (fun t => t.a == 0xFF && t.f == 0x70 && t.pc == 0x0101 && t.ppuAcc == 1) = true := by
  decide

/-- AND L (R176). -/
theorem test_B_42_20 :
    stepGives (withCode [0xA5] { State.reset with a := 0x5A, l := 0x3F })
      (fun t => t.a == 0x1A && t.f == 0x20 && t.pc == 0x0101 && t.ppuAcc == 1) = true := by
  decide

/-- XOR B (R177). -/
theorem test_B_42_22 :
    stepGives (withCode [0xA8] { State.reset with a := 0xFF, b := 0x0F })
      (fun t => t.a == 0xF0 && t.f == 0x00 && t.pc == 0x0101 && t.ppuAcc == 1) = true := by
  decide

/-- OR C (R178). -/
theorem test_B_42_24 :
    stepGives (withCode [0xB1] { State.reset with a := 0x00, c := 0x00 })
      (fun t => t.f == 0x80 && t.pc == 0x0101 && t.ppuAcc == 1) = true := by
  decide

/-- CP B (R179). -/
theorem test_B_42_26 :
    stepGives (withCode [0xB8] { State.reset with a := 0x3C, b := 0x2F })
      (fun t => t.f == 0x60 && t.pc == 0x0101 && t.ppuAcc == 1) = true := by
  decide

/-- ADD A,n (R180). -/
theorem test_B_42_29 :
    stepGives (withCode [0xC6, 0xC6] { State.reset with a := 0x3A })
      (fun t => t.a == 0x00 && t.f == 0xB0 && t.pc == 0x0102 && t.ppuAcc == 2) = true := by
  decide

/-- ADC A,n (R181). -/
theorem test_B_42_30 :
    stepGives (withCode [0xCE, 0x3B] { State.reset with a := 0xE1, f := 0x10 })
      (fun t => t.a == 0x1D && t.f == 0x10 && t.pc == 0x0102 && t.ppuAcc == 2) = true := by
  decide

/-- SUB n (R182). -/
theorem test_B_42_31 :
    stepGives (withCode [0xD6, 0x0F] { State.reset with a := 0x3E })
      (fun t => t.a == 0x2F && t.f == 0x60 && t.pc == 0x0102 && t.ppuAcc == 2) = true := by
  decide

/-- SBC A,n (R183). -/
theorem test_B_42_32 :
    stepGives (withCode [0xDE, 0x3A] { State.reset with a := 0x3B, f := 0x10 })
      (fun t => t.a == 0x00 && t.f == 0xC0 && t.pc == 0x0102 && t.ppuAcc == 2) = true := by
  decide

/-- AND n (R184). -/
theorem test_B_42_33 :
    stepGives (withCode [0xE6, 0x38] { State.reset with a := 0x5A })
      (fun t => t.a == 0x18 && t.f == 0x20 && t.pc == 0x0102 && t.ppuAcc == 2) = true := by
  decide

/-- XOR n (R185). -/
theorem test_B_42_34 :
    stepGives (withCode [0xEE, 0xFF] { State.reset with a := 0xFF })
      (fun t => t.a == 0x00 && t.f == 0x80 && t.pc == 0x0102 && t.ppuAcc == 2) = true := by
  decide

/-- OR n (R186). -/
theorem test_B_42_35 :
    stepGives (withCode [0xF6, 0x03] { State.reset with a := 0x5A })
      (fun t => t.a == 0x5B && t.f == 0x00 && t.pc == 0x0102 && t.ppuAcc == 2) = true := by
  decide

/-- CP n (R187). -/
theorem test_B_42_36 :
    stepGives (withCode [0xFE, 0x40] { State.reset with a := 0x3C })
      (fun t => t.f == 0x50 && t.pc == 0x0102 && t.ppuAcc == 2) = true := by
  decide

/-- INC B (R188). -/
theorem test_B_42_37 :
    stepGives (withCode [0x04] { State.reset with b := 0x0F, f := 0x00 })
      (fun t => t.b == 0x10 && t.f == 0x20 && t.pc == 0x0101 && t.ppuAcc == 1) = true := by
  decide

/-- INC A (R188). -/
theorem test_B_42_38 :
    stepGives (withCode [0x3C] { State.reset with a := 0xFF, f := 0x10 })
      (fun t => t.a == 0x00 && t.f == 0xB0 && t.pc == 0x0101 && t.ppuAcc == 1) = true := by
  decide

/-- INC (HL) (R189). -/
theorem test_B_42_39 :
    stepGives (withBytes [(0xC000, 0xFF)] (withCode [0x34] { State.reset with h := 0xC0, l := 0x00, f := 0x00 }))
      (fun t => t.f == 0xA0 && t.pc == 0x0101 && t.peek 0xC000 == 0x00 && t.ppuAcc == 3) = true := by
  decide

/-- DEC B (R190). -/
theorem test_B_42_40 :
    stepGives (withCode [0x05] { State.reset with b := 0x10, f := 0x00 })
      (fun t => t.b == 0x0F && t.f == 0x60 && t.pc == 0x0101 && t.ppuAcc == 1) = true := by
  decide

/-- DEC (HL) (R191). -/
theorem test_B_42_43 :
    stepGives (withBytes [(0xC000, 0x01)] (withCode [0x35] { State.reset with h := 0xC0, l := 0x00, f := 0x00 }))
      (fun t => t.f == 0xC0 && t.pc == 0x0101 && t.peek 0xC000 == 0x00 && t.ppuAcc == 3) = true := by
  decide

/-- DAA (R192). -/
theorem test_B_42_44 :
    stepGives (withCode [0x27] { State.reset with a := 0x7D, f := 0x00 })
      (fun t => t.a == 0x83 && t.f == 0x00 && t.pc == 0x0101 && t.ppuAcc == 1) = true := by
  decide

/-- DAA after SUB (R192). -/
theorem test_B_42_49 :
    stepGives (withCode [0x27] { State.reset with a := 0x0F, f := 0x60 })
      (fun t => t.a == 0x09 && t.f == 0x40 && t.pc == 0x0101 && t.ppuAcc == 1) = true := by
  decide

/-- CPL (R193). -/
theorem test_B_42_50 :
    stepGives (withCode [0x2F] { State.reset with a := 0x35, f := 0x90 })
      (fun t => t.a == 0xCA && t.f == 0xF0 && t.pc == 0x0101 && t.ppuAcc == 1) = true := by
  decide

/-- SCF (R194). -/
theorem test_B_42_51 :
    stepGives (withCode [0x37] { State.reset with f := 0xE0 })
      (fun t => t.f == 0x90 && t.pc == 0x0101 && t.ppuAcc == 1) = true := by
  decide

/-- CCF (R195). -/
theorem test_B_42_52 :
    stepGives (withCode [0x3F] { State.reset with f := 0xF0 })
      (fun t => t.f == 0x80 && t.pc == 0x0101 && t.ppuAcc == 1) = true := by
  decide

/-- INC DE (R210). -/
theorem test_B_43_1 :
    stepGives (withCode [0x13] State.reset)
      (fun t => t.e == 0xD9 && t.f == 0xB0 && t.pc == 0x0101 && t.ppuAcc == 2) = true := by
  decide

/-- DEC BC (R211). -/
theorem test_B_43_4 :
    stepGives (withCode [0x0B] { State.reset with b := 0x01, c := 0x00 })
      (fun t => t.b == 0x00 && t.c == 0xFF && t.f == 0xB0 && t.pc == 0x0101 && t.ppuAcc == 2) = true := by
  decide

/-- ADD HL,BC (R212). -/
theorem test_B_43_6 :
    stepGives (withCode [0x09] { State.reset with h := 0x8A, l := 0x23, b := 0x06, c := 0x05, f := 0x00 })
      (fun t => t.h == 0x90 && t.l == 0x28 && t.f == 0x20 && t.pc == 0x0101 && t.ppuAcc == 2) = true := by
  decide

/-- ADD HL,BC (R212). -/
theorem test_B_43_10 :
    stepGives (withCode [0x09] { State.reset with h := 0x00, l := 0xFF, b := 0x00, c := 0x01, f := 0xF0 })
      (fun t => t.h == 0x01 && t.l == 0x00 && t.f == 0x80 && t.pc == 0x0101 && t.ppuAcc == 2) = true := by
  decide

/-- ADD SP,e (R213). -/
theorem test_B_43_11 :
    stepGives (withCode [0xE8, 0x02] { State.reset with sp := 0xFFF8 })
      (fun t => t.f == 0x00 && t.sp == 0xFFFA && t.pc == 0x0102 && t.ppuAcc == 4) = true := by
  decide

/-- ADD SP,e (R213). -/
theorem test_B_43_14 :
    stepGives (withCode [0xE8, 0xFF] { State.reset with sp := 0x0001 })
      (fun t => t.f == 0x30 && t.sp == 0x0000 && t.pc == 0x0102 && t.ppuAcc == 4) = true := by
  decide

/-- RLCA (R220). -/
theorem test_B_44_1 :
    stepGives (withCode [0x07] { State.reset with a := 0x85 })
      (fun t => t.a == 0x0B && t.f == 0x10 && t.pc == 0x0101 && t.ppuAcc == 1) = true := by
  decide

/-- RRCA (R221). -/
theorem test_B_44_3 :
    stepGives (withCode [0x0F] { State.reset with a := 0x3B })
      (fun t => t.a == 0x9D && t.f == 0x10 && t.pc == 0x0101 && t.ppuAcc == 1) = true := by
  decide

/-- RLA (R222). -/
theorem test_B_44_4 :
    stepGives (withCode [0x17] { State.reset with a := 0x95, f := 0x10 })
      (fun t => t.a == 0x2B && t.f == 0x10 && t.pc == 0x0101 && t.ppuAcc == 1) = true := by
  decide

/-- RRA (R223). -/
theorem test_B_44_6 :
    stepGives (withCode [0x1F] { State.reset with a := 0x81, f := 0x00 })
      (fun t => t.a == 0x40 && t.f == 0x10 && t.pc == 0x0101 && t.ppuAcc == 1) = true := by
  decide

/-- RLC B (R225). -/
theorem test_B_44_8 :
    stepGives (withCode [0xCB, 0x00] { State.reset with b := 0x85 })
      (fun t => t.b == 0x0B && t.f == 0x10 && t.pc == 0x0102 && t.ppuAcc == 2) = true := by
  decide

/-- RRC C (R226). -/
theorem test_B_44_11 :
    stepGives (withCode [0xCB, 0x09] { State.reset with c := 0x01 })
      (fun t => t.c == 0x80 && t.f == 0x10 && t.pc == 0x0102 && t.ppuAcc == 2) = true := by
  decide

/-- RL L (R227). -/
theorem test_B_44_12 :
    stepGives (withCode [0xCB, 0x15] { State.reset with l := 0x80, f := 0x00 })
      (fun t => t.l == 0x00 && t.f == 0x90 && t.pc == 0x0102 && t.ppuAcc == 2) = true := by
  decide

/-- RR A (R228). -/
theorem test_B_44_14 :
    stepGives (withCode [0xCB, 0x1F] { State.reset with a := 0x01, f := 0x00 })
      (fun t => t.a == 0x00 && t.f == 0x90 && t.pc == 0x0102 && t.ppuAcc == 2) = true := by
  decide

/-- SLA D (R229). -/
theorem test_B_44_16 :
    stepGives (withCode [0xCB, 0x22] { State.reset with d := 0xFF })
      (fun t => t.d == 0xFE && t.f == 0x10 && t.pc == 0x0102 && t.ppuAcc == 2) = true := by
  decide

/-- SRA A (R230). -/
theorem test_B_44_18 :
    stepGives (withCode [0xCB, 0x2F] { State.reset with a := 0x8A })
      (fun t => t.a == 0xC5 && t.f == 0x00 && t.pc == 0x0102 && t.ppuAcc == 2) = true := by
  decide

/-- SWAP A (R231). -/
theorem test_B_44_20 :
    stepGives (withCode [0xCB, 0x37] { State.reset with a := 0xF1 })
      (fun t => t.a == 0x1F && t.f == 0x00 && t.pc == 0x0102 && t.ppuAcc == 2) = true := by
  decide

/-- SRL (HL) (R232). -/
theorem test_B_44_22 :
    stepGives (withBytes [(0xC000, 0xFF)] (withCode [0xCB, 0x3E] { State.reset with h := 0xC0, l := 0x00 }))
      (fun t => t.f == 0x10 && t.pc == 0x0102 && t.peek 0xC000 == 0x7F && t.ppuAcc == 4) = true := by
  decide

/-- BIT 7,A (R233). -/
theorem test_B_44_24 :
    stepGives (withCode [0xCB, 0x7F] { State.reset with a := 0x80, f := 0x10 })
      (fun t => t.f == 0x30 && t.pc == 0x0102 && t.ppuAcc == 2) = true := by
  decide

/-- RES 0,A (R234). -/
theorem test_B_44_27 :
    stepGives (withCode [0xCB, 0x87] { State.reset with a := 0xFF })
      (fun t => t.a == 0xFE && t.f == 0xB0 && t.pc == 0x0102 && t.ppuAcc == 2) = true := by
  decide

/-- SET 7,(HL) (R235). -/
theorem test_B_44_29 :
    stepGives (withCode [0xCB, 0xFE] { State.reset with h := 0xC0, l := 0x00 })
      (fun t => t.f == 0xB0 && t.pc == 0x0102 && t.peek 0xC000 == 0x80 && t.ppuAcc == 4) = true := by
  decide

/-- JP nn (R251). -/
theorem test_B_45_1 :
    stepGives (withCode [0xC3, 0x50, 0x01] State.reset)
      (fun t => t.f == 0xB0 && t.pc == 0x0150 && t.ppuAcc == 4) = true := by
  decide

/-- JP Z,nn taken (R252). -/
theorem test_B_45_2 :
    stepGives (withCode [0xCA, 0x00, 0x80] { State.reset with f := 0x80, pc := 0x0200 })
      (fun t => t.f == 0x80 && t.pc == 0x8000 && t.ppuAcc == 3) = true := by
  decide

/-- JP NC,nn taken (R252). -/
theorem test_B_45_4 :
    stepGives (withCode [0xD2, 0x34, 0x12] { State.reset with f := 0x00 })
      (fun t => t.f == 0x00 && t.pc == 0x1234 && t.ppuAcc == 3) = true := by
  decide

/-- JP (HL) (R253). -/
theorem test_B_45_5 :
    stepGives (withCode [0xE9] { State.reset with h := 0x40, l := 0x00 })
      (fun t => t.f == 0xB0 && t.pc == 0x4000 && t.ppuAcc == 1) = true := by
  decide

/-- JR e forward (R254). -/
theorem test_B_45_6 :
    stepGives (withCode [0x18, 0x05] { State.reset with pc := 0x0150 })
      (fun t => t.f == 0xB0 && t.pc == 0x0157 && t.ppuAcc == 3) = true := by
  decide

/-- JR Z,e not taken (R255). -/
theorem test_B_45_10 :
    stepGives (withCode [0x28, 0x05] { State.reset with f := 0x00 })
      (fun t => t.f == 0x00 && t.pc == 0x0102 && t.ppuAcc == 2) = true := by
  decide

/-- JR NC,e not taken (R255). -/
theorem test_B_45_14 :
    stepGives (withCode [0x30, 0x7F] { State.reset with f := 0x10 })
      (fun t => t.f == 0x10 && t.pc == 0x0102 && t.ppuAcc == 2) = true := by
  decide

/-- CALL nn (R256). -/
theorem test_B_45_15 :
    stepGives (withCode [0xCD, 0x00, 0x02] { State.reset with pc := 0x0150 })
      (fun t => t.f == 0xB0 && t.sp == 0xFFFC && t.pc == 0x0200 && t.peek 0xFFFC == 0x53 && t.peek 0xFFFD == 0x01 && t.ppuAcc == 6) = true := by
  decide

/-- CALL C,nn not taken (R257). -/
theorem test_B_45_16 :
    stepGives (withCode [0xDC, 0x00, 0x40] { State.reset with f := 0x00, pc := 0x0300 })
      (fun t => t.f == 0x00 && t.pc == 0x0303 && t.ppuAcc == 3) = true := by
  decide

/-- CALL NZ,nn taken (R257). -/
theorem test_B_45_17 :
    stepGives (withCode [0xC4, 0x00, 0x40] { State.reset with f := 0x00, pc := 0x0300 })
      (fun t => t.f == 0x00 && t.sp == 0xFFFC && t.pc == 0x4000 && t.peek 0xFFFC == 0x03 && t.peek 0xFFFD == 0x03 && t.ppuAcc == 3) = true := by
  decide

/-- RET (R258). -/
theorem test_B_45_18 :
    stepGives (withBytes [(0xFFFC, 0x53), (0xFFFD, 0x01)] (withCode [0xC9] { State.reset with sp := 0xFFFC }))
      (fun t => t.f == 0xB0 && t.sp == 0xFFFE && t.pc == 0x0153 && t.ppuAcc == 4) = true := by
  decide

/-- RET NZ not taken (R259). -/
theorem test_B_45_20 :
    stepGives (withBytes [(0xFFFC, 0x53), (0xFFFD, 0x01)] (withCode [0xC0] { State.reset with f := 0x80, sp := 0xFFFC }))
      (fun t => t.f == 0x80 && t.pc == 0x0101 && t.ppuAcc == 2) = true := by
  decide

/-- RET C taken (R259). -/
theorem test_B_45_21 :
    stepGives (withBytes [(0xFFFC, 0x53), (0xFFFD, 0x01)] (withCode [0xD8] { State.reset with f := 0x10, sp := 0xFFFC }))
      (fun t => t.f == 0x10 && t.sp == 0xFFFE && t.pc == 0x0153 && t.ppuAcc == 2) = true := by
  decide

/-- RETI (R260). -/
theorem test_B_45_22 :
    stepGives (withBytes [(0xFFFC, 0x53), (0xFFFD, 0x01)] (withCode [0xD9] { State.reset with sp := 0xFFFC }))
      (fun t => t.f == 0xB0 && t.sp == 0xFFFE && t.pc == 0x0153 && t.ppuAcc == 4) = true := by
  decide

/-- RST 0x28 (R261). -/
theorem test_B_45_23 :
    stepGives (withCode [0xEF] { State.reset with sp := 0xD000, pc := 0x0234 })
      (fun t => t.f == 0xB0 && t.sp == 0xCFFE && t.pc == 0x0028 && t.peek 0xCFFE == 0x35 && t.peek 0xCFFF == 0x02 && t.ppuAcc == 4) = true := by
  decide

/-- NOP (R280). -/
theorem test_B_46_1 :
    stepGives (withCode [0x00] State.reset)
      (fun t => t.f == 0xB0 && t.pc == 0x0101 && t.ppuAcc == 1) = true := by
  decide

/-- HALT (R281). -/
theorem test_B_46_2 :
    stepGives (withCode [0x76] { State.reset with pc := 0x0150 })
      (fun t => t.f == 0xB0 && t.pc == 0x0151 && t.halted == true && t.ppuAcc == 1) = true := by
  decide

/-- STOP (R282). -/
theorem test_B_46_3 :
    stepGives (withCode [0x10, 0x00] { State.reset with pc := 0x0160 })
      (fun t => t.f == 0xB0 && t.pc == 0x0162 && t.stopped == true && t.ppuAcc == 1) = true := by
  decide

/-- DI (R283). -/
theorem test_B_46_4 :
    stepGives (withCode [0xF3] State.reset)
      (fun t => t.f == 0xB0 && t.pc == 0x0101 && t.ppuAcc == 1) = true := by
  decide

/-- EI (R284). -/
theorem test_B_46_5 :
    stepGives (withCode [0xFB] State.reset)
      (fun t => t.f == 0xB0 && t.pc == 0x0101 && t.ppuAcc == 1) = true := by
  decide

/-- ILLEGAL (R285). -/
theorem test_B_46_6 :
    step (withCode [0xDD] State.reset) =
      .fault (.illegalOpcode 0xDD (withCode [0xDD] State.reset)) := by rfl

/-- fetch from the gap (R93). -/
theorem test_B_46_9 :
    stepFaults (withCode [0x00] { State.reset with pc := 0xFEA0 }) 0xFEA0
      (fun t => t.f == 0xB0 && t.pc == 0xFEA0) = true := by
  decide

/-! ### The PPU (part C), the renderer (part D), the serial tap (R355) -/

theorem test_C_1 : (State.reset.tick 79).ppuAcc = 79 ∧ (State.reset.tick 79).ppuMode = .accessOAM ∧
    (State.reset.tick 79).peek 0xFF41 = 0x00 := by decide

theorem test_C_2 : (State.reset.tick 80).ppuAcc = 0 ∧ (State.reset.tick 80).ppuMode = .accessVRAM ∧
    (State.reset.tick 80).peek 0xFF41 = 0x03 := by decide

theorem test_C_7b : let t := (withBytes [(0xFF41, 0x48)] State.reset).tick 252;
    t.ppuMode = .hblank ∧ t.peek 0xFF41 = 0x4C ∧ t.peek 0xFF0F = 0x02 := by decide

theorem test_C_8a : let t := (withBytes [(0xFF41, 0x40), (0xFF45, 0x01)] State.reset).tick 252;
    t.ppuMode = .hblank ∧ t.peek 0xFF41 = 0x40 ∧ t.peek 0xFF0F = 0x00 := by decide

theorem test_C_8d : let t := (withBytes [(0xFF41, 0x08), (0xFF45, 0x05)] State.reset).tick 252;
    t.ppuMode = .hblank ∧ t.peek 0xFF41 = 0x08 ∧ t.peek 0xFF0F = 0x02 := by decide

/-- C.10b, from the state C.10a gives. -/
theorem test_C_10b : let t := State.tick { State.reset with ppuLine := 143, ppuMode := .hblank, ppuAcc := 203 } 1;
    t.ppuLine = 144 ∧ t.ppuMode = .vblank ∧ t.ppuAcc = 0 ∧ t.peek 0xFF44 = 0x90 ∧ t.peek 0xFF41 = 0x01 ∧
      t.peek 0xFF0F = 0x01 ∧ t.frames.length = 0 := by decide

/-- C.10d, from the state C.10c gives. -/
theorem test_C_10d : let t := State.tick (withBytes [(0xFF0F, 0x01), (0xFF41, 0x01), (0xFF44, 0x99)]
      { State.reset with ppuLine := 153, ppuMode := .vblank, ppuAcc := 455 }) 1;
    t.ppuLine = 0 ∧ t.ppuMode = .accessOAM ∧ t.ppuAcc = 0 ∧ t.peek 0xFF44 = 0x00 ∧ t.peek 0xFF41 = 0x02 ∧
      t.peek 0xFF0F = 0x01 ∧ t.frames.length = 1 := by decide

theorem test_D_1 : (List.range 9).map (linePixel (withBytes [(0xFF40, 0x91), (0x9800, 0x01), (0x8010, 0x3C),
    (0x8011, 0x7E)] State.reset) 0) = [0, 2, 3, 3, 3, 3, 2, 0, 0] := by decide

theorem test_D_2 : (List.range 5).map (linePixel (withBytes [(0xFF40, 0x91), (0x9800, 0x01), (0x8010, 0x3C),
    (0x8011, 0x7E), (0xFF43, 0x03)] State.reset) 0) = [3, 3, 3, 2, 0] := by decide

theorem test_D_3 : (List.range 9).map (linePixel (withBytes [(0xFF40, 0x91), (0x9BE0, 0x02), (0x802E, 0xFF),
    (0x802F, 0x00), (0xFF42, 0xFF)] State.reset) 0) = [1, 1, 1, 1, 1, 1, 1, 1, 0] := by decide

theorem test_D_4 : [0, 8, 16, 24, 28, 32].map (linePixel (withBytes [(0xFF40, 0x81), (0x9800, 0x80), (0x9801, 0x7F),
    (0x9802, 0x00), (0x9803, 0xFF), (0x8800, 0xFF), (0x8801, 0x00), (0x97F0, 0x00), (0x97F1, 0xFF), (0x9000, 0xFF),
    (0x9001, 0xFF), (0x8FF0, 0x0F), (0x8FF1, 0xF0)] State.reset) 0) = [1, 2, 3, 2, 1, 3] := by decide

/-- The memory of D.5, with WX given. -/
def windowState (wx : Byte) : State :=
  withBytes [(0xFF40, 0xF1), (0xFF4A, 0x02), (0xFF4B, wx), (0x9C00, 0x03), (0x8030, 0xFF), (0x8031, 0xFF),
    (0x8032, 0xAA), (0x8033, 0x55)] State.reset

theorem test_D_5 : (List.range 17).map (linePixel (windowState 15) 1) = List.replicate 17 0 ∧
    [7, 8, 15, 16].map (linePixel (windowState 15) 2) = [0, 3, 3, 0] ∧
    [7, 8, 9, 14, 15, 16].map (linePixel (windowState 15) 3) = [0, 1, 2, 1, 2, 0] := by decide

theorem test_D_6 : [0, 1].map (linePixel (windowState 0) 2) = [3, 0] ∧
    [3, 4].map (linePixel (windowState 3) 2) = [3, 0] ∧
    [158, 159].map (linePixel (windowState 166) 2) = [0, 3] ∧ linePixel (windowState 167) 2 159 = 0 := by decide

theorem test_serialTap : stepGives (withBytes [(0xFF01, 0x48), (0xFF02, 0x81)] State.reset)
    (fun t => t.text == [0x48] && t.peek 0xFF02 == 0x00 && t.peek 0xFF01 == 0x48) = true := by decide

theorem test_serialTap_other_value : stepGives (withBytes [(0xFF01, 0x48), (0xFF02, 0x80)] State.reset)
    (fun t => t.text == [] && t.peek 0xFF02 == 0x80) = true := by decide

/-! ### Witnesses: states and operands that meet the hypotheses of the statements

A statement that has no hypothesis but the kind of its variables needs none. -/

theorem witness_EncodeThenDecode : (Instr.illegal 0xD3).wf .two = true ∧ (Instr.illegal 0xFD).wf .one = true ∧
    Instr.stopOneByte.wf .one = true ∧ Instr.stop.wf .two = true ∧ (Instr.set_7_a).wf .one = true ∧
    (Instr.ld_sp_nn 0xFFFF).wf .two = true := by decide

theorem witness_DecodeThenEncode : decode .two [0x10, 0xFF] = .ok (.stop, []) ∧
    decode .one [0x10] = .ok (.stopOneByte, []) ∧
    decode .two [0xFA, 0xFF, 0xFF, 0x00] = .ok (.ld_a_atNn 0xFFFF, [0x00]) := by decide

theorem witness_IllegalOpcodesFault : let s := withCode [0xFD] { State.reset with pc := 0xFE9F };
    (0xFD : Byte) ∈ [0xD3, 0xDB, 0xDD, 0xE3, 0xE4, 0xEB, 0xEC, 0xED, 0xF4, 0xFC, (0xFD : Byte)] ∧
      s.stopped = false ∧ Mapped s.pc ∧ s.peek s.pc = 0xFD := by decide

/-- An instruction whose last byte is the last one below the gap, and one of one byte there. -/
theorem witness_StepRunsDecodedInstruction :
    (let s := withCode [0xC3, 0x00, 0x80] { State.reset with pc := 0xFE9D };
      s.stopped = false ∧
        decode standardConfig.stopLength [s.peek s.pc, s.peek (s.pc + 1), s.peek (s.pc + 2)] = .ok (.jp_nn 0x8000, []) ∧
        ∀ k < fetchLength (s.peek s.pc), Mapped (s.pc + BitVec.ofNat 16 k)) ∧
    (let s := withCode [0x00] { State.reset with pc := 0xFE9F };
      s.stopped = false ∧
        decode standardConfig.stopLength [s.peek s.pc, s.peek (s.pc + 1), s.peek (s.pc + 2)] = .ok (.nop, [0x00, 0x00]) ∧
        ∀ k < fetchLength (s.peek s.pc), Mapped (s.pc + BitVec.ofNat 16 k)) := by decide

theorem witness_FetchFaultsAtFirstUnmappedByte :
    (let s := { State.reset with pc := 0xFEFF };
      s.stopped = false ∧ ¬Mapped s.pc) ∧
    (let s := withCode [0x3E] { State.reset with pc := 0xFE9F };
      Mapped s.pc ∧ 2 ≤ fetchLength (s.peek s.pc) ∧ ¬Mapped (s.pc + 1)) ∧
    (let s := withCode [0xC3, 0x00] { State.reset with pc := 0xFE9E };
      Mapped s.pc ∧ Mapped (s.pc + 1) ∧ 3 ≤ fetchLength (s.peek s.pc) ∧ ¬Mapped (s.pc + 2)) := by decide

theorem witness_RunControl : (∃ t, exec .stopOneByte State.reset = .next t) ∧
    (∃ t, exec .stop State.reset = .next t) ∧ (∃ t, exec .halt State.reset = .next t) ∧
    { State.reset with stopped := true }.stopped = true := ⟨⟨_, rfl⟩, ⟨_, rfl⟩, ⟨_, rfl⟩, rfl⟩

theorem witness_HaltedIsReadByNothing : (∃ t, stepWith standardConfig State.reset = .next t) ∧
    (∃ u, stepWith standardConfig { State.reset with pc := 0xFEA0 } = .fault (.unmappedAddress 0xFEA0 u)) ∧
    ∃ u, stepWith standardConfig (withCode [0xFD] State.reset) = .fault (.illegalOpcode 0xFD u) :=
  ⟨⟨_, rfl⟩, ⟨_, rfl⟩, ⟨_, rfl⟩⟩

/-- Every clause at both ends of its range, and no address in two of them. -/
theorem witness_BusReadAndWrite :
    resolve 0xE000 = some 0xC000 ∧ resolve 0xFDFF = some 0xDDFF ∧ resolve 0xFEA0 = none ∧ resolve 0xFEFF = none ∧
    resolve 0x0000 = some 0x0000 ∧ resolve 0x7FFF = some 0x7FFF ∧ resolve 0xDFFF = some 0xDFFF ∧
    resolve 0xFE00 = some 0xFE00 ∧ resolve 0xFE9F = some 0xFE9F ∧ resolve 0xFF00 = some 0xFF00 ∧
    resolve 0xFFFF = some 0xFFFF := by decide

theorem witness_EchoIsWorkRam : 0xE000 ≤ (0xE000 : Word).toNat ∧ (0xE000 : Word).toNat ≤ 0xFDFF ∧
    0xE000 ≤ (0xFDFF : Word).toNat ∧ (0xFDFF : Word).toNat ≤ 0xFDFF := by decide

theorem witness_WordAccess : (Mapped 0xFFFF ∧ Mapped (0xFFFF + 1)) ∧ ¬Mapped 0xFEA0 ∧ ¬Mapped 0xFEFF ∧
    Mapped 0xFE9F ∧ ¬Mapped (0xFE9F + 1) := by decide

theorem witness_RomNeverChanges : (0x7FFF : Word).toNat ≤ 0x7FFF ∧
    ∃ t, Reaches standardConfig State.reset t ∧ t.pc = 0x0101 :=
  ⟨by decide, _, .tail (.refl _) rfl, by decide⟩

theorem witness_FlagWriters : ∃ t, exec .cpl State.reset = .next t ∧ t.f ≠ State.reset.f :=
  ⟨_, rfl, by decide⟩

theorem witness_PushesHighByteThenLowByte :
    (Mapped ((0x0001 : Word) - 1) ∧ Mapped ((0x0001 : Word) - 2)) ∧ ¬Mapped ((0xFF00 : Word) - 1) ∧
    Mapped ((0xFF01 : Word) - 1) ∧ ¬Mapped ((0xFF01 : Word) - 2) := by decide

theorem witness_PopsLowByteThenHighByte :
    (Mapped (0xFFFF : Word) ∧ Mapped ((0xFFFF : Word) + 1)) ∧ ¬Mapped (0xFEA0 : Word) ∧
    Mapped (0xFE9F : Word) ∧ ¬Mapped ((0xFE9F : Word) + 1) := by decide

theorem witness_PopRestoresWhatPushSaved : let s := { State.reset with sp := 0x8002 };
    Mapped (s.sp - 1) ∧ Mapped (s.sp - 2) ∧ 0x7FFF < (s.sp - 1).toNat ∧ 0x7FFF < (s.sp - 2).toNat := by decide

/-- HL at the last byte below the gap: the premise of LoadAndStoreThroughHL, and of LoadImmediate for (HL). -/
theorem witness_LoadAndStoreThroughHL : Mapped { State.reset with h := 0xFE, l := 0x9F }.hl := by decide

theorem witness_LoadImmediate : (Operand8.atHL = .atHL → Mapped { State.reset with h := 0xFF, l := 0x00 }.hl) ∧
    (Operand8.reg .b = .atHL → Mapped { State.reset with h := 0xFE, l := 0xA0 }.hl) := by decide

/-- BC, DE and HL each at an end of a mapped range. -/
def pointers : State := { State.reset with b := 0xFF, c := 0x00, d := 0xFE, e := 0x9F, h := 0xFF, l := 0xFF }

/-- The premises of LoadAccumulator, for every addressing mode. -/
theorem witness_LoadAccumulator : let s := pointers;
    (Mapped s.bc ∧ s.bc = 0xFF00) ∧ (Mapped s.de ∧ s.de = 0xFE9F) ∧ Mapped (0xFFFF : Word) ∧
      (0xFF00 + (0x00 : Byte).setWidth 16 : Word) = 0xFF00 ∧ (0xFF00 + s.c.setWidth 16 : Word) = 0xFF00 ∧
      Mapped s.hl ∧ s.hl + 1 = 0x0000 ∧ s.hl - 1 = 0xFFFE := by decide

/-- The premises of StoreAccumulator are those of LoadAccumulator: here at the other end of the mapped ranges. -/
theorem witness_StoreAccumulator : let s := { State.reset with b := 0xFE, c := 0x9F, d := 0x00, e := 0x00, h := 0x00, l := 0x00 };
    (Mapped s.bc ∧ s.bc = 0xFE9F) ∧ (Mapped s.de ∧ s.de = 0x0000) ∧ Mapped (0xFF00 : Word) ∧
      (0xFF00 + (0xFF : Byte).setWidth 16 : Word) = 0xFFFF ∧ (0xFF00 + s.c.setWidth 16 : Word) = 0xFF9F ∧
      Mapped s.hl ∧ s.hl + 1 = 0x0001 ∧ s.hl - 1 = 0xFFFF := by decide

theorem witness_StoreStackPointer : Mapped (0xFFFF : Word) ∧ Mapped ((0xFFFF : Word) + 1) := by decide

/-- The stack wraps. -/
theorem witness_PushPair : let s := { State.reset with sp := 0x0001 };
    Mapped (s.sp - 1) ∧ Mapped (s.sp - 2) := by decide

theorem witness_PopPair : let s := { State.reset with sp := 0xFFFF };
    Mapped s.sp ∧ Mapped (s.sp + 1) := by decide

/-- The operand premise of IncAndDec, on a register and on (HL). -/
theorem witness_IncAndDec : OperandIs State.reset (.reg .a) 0x01 ∧
    OperandIs (withBytes [(0xFE9F, 0x5A)] { State.reset with h := 0xFE, l := 0x9F }) .atHL 0x5A :=
  ⟨rfl, by decide, by decide⟩

/-- Every case of AddAndAdc, with the carry set for ADC, in both kinds of form. -/
theorem witness_AddAndAdc : 
    (AluForm State.reset .add (.alu .add (.reg .a)) 0x01 1 ∧ AluForm State.reset .add (.aluImm .add 0xFF) 0xFF 2) ∧
    AluForm State.reset .adc (.alu .adc (.reg .a)) 0x01 1 ∧ State.reset.flagC.toNat = 1 :=
  ⟨⟨.operand rfl, .immediate _⟩, .operand rfl, by decide⟩

theorem witness_SubSbcAndCp : AluForm State.reset .sub (.alu .sub (.reg .b)) 0x00 1 ∧
    (AluForm State.reset .sbc (.aluImm .sbc 0x00) 0x00 2 ∧ State.reset.flagC.toNat = 1) ∧
    AluForm State.reset .cp (.aluImm .cp 0x02) 0x02 2 :=
  ⟨.operand rfl, ⟨.immediate _, by decide⟩, .immediate _⟩

theorem witness_AndXorOr : AluForm State.reset .and (.aluImm .and 0x0F) 0x0F 2 ∧
    AluForm State.reset .xor (.alu .xor (.reg .a)) 0x01 1 ∧ AluForm State.reset .or (.alu .or (.reg .b)) 0x00 1 :=
  ⟨.immediate _, .operand rfl, .operand rfl⟩

/-- The premises of DecimalAdjust with both adjustments and with neither. -/
theorem witness_DecimalAdjust :
    (let s := { State.reset with a := 0x9A, f := 0x00 };
      true = (s.flagH || (!s.flagN && decide (9 < s.a.toNat % 16))) ∧
        true = (s.flagC || (!s.flagN && decide (0x99 < s.a.toNat)))) ∧
    (let s := { State.reset with a := 0x9A, f := 0x40 };
      false = (s.flagH || (!s.flagN && decide (9 < s.a.toNat % 16))) ∧
        false = (s.flagC || (!s.flagN && decide (0x99 < s.a.toNat)))) := by decide

theorem witness_DecimalAdjustCorrectsBcd : let s := { State.reset with a := 0x99 };
    99 < 100 ∧ 1 < 100 ∧ s.a.toNat = 16 * (99 / 10) + 99 % 10 ∧ (0x01 : Byte).toNat = 16 * (1 / 10) + 1 % 10 := by decide

/-- One value for each case of AccumulatorRotates, at 0x81, where the bits shifted out are both 1. -/
theorem witness_AccumulatorRotates : let s := { State.reset with a := 0x81 };
    2 * s.a.toNat % 256 + s.a.toNat / 128 = 0x03 ∧ s.a.toNat / 2 + 128 * (s.a.toNat % 2) = 0xC0 ∧
      2 * s.a.toNat % 256 + s.flagC.toNat = 0x03 ∧ s.a.toNat / 2 + 128 * s.flagC.toNat = 0xC0 ∧
      true = decide (128 ≤ s.a.toNat) ∧ true = decide (s.a.toNat % 2 = 1) := by decide

/-- The premises of RotatesAndShifts, for SRA on the register A at 0x81. -/
theorem witness_RotatesAndShifts : OperandIs { State.reset with a := 0x81 } (.reg .a) 0x81 ∧
    ((0xC0, true) : Nat × Bool) = ((0x81 : Byte).toNat / 2 + 128 * ((0x81 : Byte).toNat / 128),
      decide ((0x81 : Byte).toNat % 2 = 1)) := ⟨rfl, by decide⟩

/-- The operand premise of BitResAndSet, on a register and on (HL). -/
theorem witness_BitResAndSet : OperandIs State.reset (.reg .e) 0xD8 ∧
    OperandIs (withBytes [(0xFF00, 0x80)] { State.reset with h := 0xFF, l := 0x00 }) .atHL 0x80 :=
  ⟨rfl, by decide, by decide⟩

/-- Each condition holds in a state and fails in another. -/
theorem witness_Jumps : let s := { State.reset with f := 0x00 };
    let u := { State.reset with f := 0x90 };
    (CondHolds s .nz ∧ ¬CondHolds u .nz) ∧ (CondHolds u .z ∧ ¬CondHolds s .z) ∧
      (CondHolds s .nc ∧ ¬CondHolds u .nc) ∧ (CondHolds u .c ∧ ¬CondHolds s .c) := by
  simp only [CondHolds]; decide

theorem witness_Calls : let s := { State.reset with sp := 0x0001, f := 0x80 };
    Mapped (s.sp - 1) ∧ Mapped (s.sp - 2) ∧ CondHolds s .z ∧ ¬CondHolds s .nz := by
  simp only [CondHolds]; decide

theorem witness_Returns : let s := { State.reset with sp := 0xFFFF, f := 0x10 };
    Mapped s.sp ∧ Mapped (s.sp + 1) ∧ CondHolds s .c ∧ ¬CondHolds s .nc := by
  simp only [CondHolds]; decide

theorem witness_DataAccessFaults :
    ¬Mapped { State.reset with h := 0xFE, l := 0xA0 }.hl ∧ ¬Mapped { State.reset with b := 0xFE, c := 0xFF }.bc ∧
    ¬Mapped { State.reset with d := 0xFE, e := 0xA0 }.de ∧ ¬Mapped (0xFEFF : Word) ∧
    (Mapped (0xFE9F : Word) ∧ ¬Mapped ((0xFE9F : Word) + 1)) ∧
    ¬Mapped ({ State.reset with sp := 0xFF00 }.sp - 1) ∧
    (let s := { State.reset with sp := 0xFF01 };
      Mapped (s.sp - 1) ∧ ¬Mapped (s.sp - 2)) ∧
    ¬Mapped { State.reset with sp := 0xFEFF }.sp ∧
    let s := { State.reset with sp := 0xFE9F };
    Mapped s.sp ∧ ¬Mapped (s.sp + 1) := by decide

theorem witness_FaultsArePrecise :
    (∃ u, stepWith standardConfig (withCode [0xC5] { State.reset with sp := 0xFF01 }) =
      .fault (.unmappedAddress 0xFEFF u)) ∧
    ∃ u, stepWith standardConfig (withCode [0xDD] State.reset) = .fault (.illegalOpcode 0xDD u) :=
  ⟨⟨_, rfl⟩, ⟨_, rfl⟩⟩

/-- The clauses of TickLoop: one below the budget, the budget itself, and the bound of the cost. -/
theorem witness_TickLoop : State.reset.ppuAcc + 79 < budget State.reset.ppuMode ∧
    budget State.reset.ppuMode ≤ State.reset.ppuAcc + 80 ∧ State.reset.ppuAcc < budget State.reset.ppuMode ∧
    80 ≤ 80 := by decide

/-- A visible line and a line of VBlank, each after one tick from reset. -/
theorem witness_TickPosition : ([79].foldl State.tick State.reset).ppuLine ≤ 143 ∧
    144 ≤ ([65664].foldl State.tick State.reset).ppuLine := by
  have key : ∀ t : State, t.PpuInv ∧ t.ppuPosition = State.reset.ppuPosition + 65664 → 144 ≤ t.ppuLine := by
    rintro t ⟨⟨hi, hl⟩, hp⟩
    rw [show State.reset.ppuPosition = 0 from rfl] at hp
    unfold State.ppuPosition at hp
    unfold State.LineInv at hl
    cases hm : t.ppuMode <;> rw [hm] at hi hl hp <;> simp only [budget, modeStart] at hi hl hp <;> omega
  have h := key _ (State.tick_position (s := State.reset) (Nat.zero_le 143) 65664)
  refine ⟨by decide, ?_⟩
  rw [List.foldl_cons, List.foldl_nil]
  exact h

theorem witness_StepMovesPpuByTheCost : State.reset.LineInv ∧ State.reset.stopped = false ∧
    State.reset.fetch standardConfig.stopLength = .ok .nop ∧ ∃ t, stepWith standardConfig State.reset = .next t :=
  ⟨Nat.zero_le 143, rfl, rfl, _, rfl⟩

theorem witness_Costs : (Instr.nop.wf standardConfig.stopLength = true ∧ encode .nop = 0x00 :: []) ∧
    (Instr.set_7_a.wf standardConfig.stopLength = true ∧ encode .set_7_a = 0xCB :: [0xFF]) ∧ ∀ op, Instr.ei ≠ .illegal op :=
  ⟨by decide, by decide, fun _ h => by cases h⟩

theorem witness_SetModePublishesTheMode : State.reset.ppuMode = .accessOAM := rfl

/-- The coincidence holds in one state and not in the other. -/
theorem witness_LeavingAccessVRAM : let s := { State.reset with ppuMode := .accessVRAM };
    let u := withBytes [(0xFF45, 0x01)] s;
    (s.ppuMode = .accessVRAM ∧ true = decide (s.peek 0xFF44 = s.peek 0xFF45)) ∧
      u.ppuMode = .accessVRAM ∧ false = decide (u.peek 0xFF44 = u.peek 0xFF45) := by decide

/-- The last visible line and the one before it. -/
theorem witness_LeavingHBlank : let s := { State.reset with ppuMode := .hblank, ppuLine := 143 };
    let u := { State.reset with ppuMode := .hblank, ppuLine := 142 };
    (s.ppuMode = .hblank ∧ s.ppuLine + 1 = 144) ∧ u.ppuMode = .hblank ∧ u.ppuLine + 1 ≠ 144 := by decide

/-- The last line of the frame and the one before it. -/
theorem witness_LeavingVBlank : let s := { State.reset with ppuMode := .vblank, ppuLine := 153 };
    let u := { State.reset with ppuMode := .vblank, ppuLine := 152 };
    (s.ppuMode = .vblank ∧ s.ppuLine + 1 = 154) ∧ u.ppuMode = .vblank ∧ u.ppuLine + 1 ≠ 154 := by decide

theorem witness_RenderedLine : (143 < 144 ∧ 0 < 144 ∧ 0 ≠ 143) ∧ 159 < 160 := by decide

/-- IF bits 0 and 1 set, and bit 2 for the other clause. -/
theorem witness_TickWritesOnlyItsRegisters : let s := withBytes [(0xFF0F, 0x07)] State.reset;
    (s.peek 0xFF0F).getLsbD 0 = true ∧ (s.peek 0xFF0F).getLsbD 1 = true ∧ ¬2 < 2 := by decide

theorem witness_SerialTap : (withBytes [(0xFF02, 0x81)] State.reset).peek 0xFF02 = standardConfig.serialSentinel ∧
    State.reset.peek 0xFF02 ≠ standardConfig.serialSentinel ∧ ∃ t, stepWith standardConfig State.reset = .next t :=
  ⟨by decide, by decide, _, rfl⟩

theorem witness_TickAndTapCommute : (withBytes [(0xFF01, 0x48), (0xFF02, 0x81)] State.reset).MemInv := by decide

theorem witness_ResetValues : State.reset = State.resetWith [] Frame.blank := rfl

theorem witness_ResetHasInvariant : Memory.wf [(0x0100, 0x18), (0xFFFF, 0x01)] ∧
    Memory.backed [(0x0100, 0x18), (0xFFFF, 0x01)] := by decide

theorem witness_StepKeepsInvariant : State.reset.Inv ∧ ∃ t, stepWith standardConfig State.reset = .next t :=
  ⟨⟨by decide, ⟨by decide, Nat.zero_le 143⟩, by decide⟩, _, rfl⟩

end Sys2Proof.Tests
end

section
/-!
PROOFS about the register pairs (10_state.md rules R23, R27): the bytes of a word as numbers, what a masked word is byte
by byte, and from them the pairs as views over two registers.
-/

namespace Sys2Proof.Machine

/-! ### The bytes of a word -/

theorem hiByte_toNat (w : Word) : (hiByte w).toNat = w.toNat / 256 := by
  have hw := w.isLt
  simp only [hiByte, BitVec.extractLsb'_toNat, Nat.shiftRight_eq_div_pow]
  omega

theorem loByte_toNat (w : Word) : (loByte w).toNat = w.toNat % 256 := by
  simp [loByte, BitVec.extractLsb'_toNat]

/-- A word is masked byte by byte. -/
theorem joinBytes_and_joinBytes (hi lo hi' lo' : Byte) :
    joinBytes hi lo &&& joinBytes hi' lo' = joinBytes (hi &&& hi') (lo &&& lo') :=
  BitVec.and_append

/-! ### AF -/

/-- What a write to AF reads back as: the low nibble of F is cleared (R27). -/
@[simp] theorem State.af_setAF (s : State) (w : Word) : (s.setAF w).af = w &&& 0xFFF0 := by
  have mask : (0xFFF0 : Word) = joinBytes 0xFF 0xF0 := by decide
  have hi : hiByte w &&& 0xFF = hiByte w := BitVec.and_allOnes
  calc (s.setAF w).af = joinBytes (hiByte w) (loByte w &&& 0xF0) := rfl
    _ = joinBytes (hiByte w) (loByte w) &&& joinBytes 0xFF 0xF0 := by rw [joinBytes_and_joinBytes, hi]
    _ = w &&& 0xFFF0 := by rw [joinBytes_hi_lo, mask]

/-! ### The obligation -/

/-- Settles O13: a pair reads as its two registers joined, and the bytes a write splits the word into are `hiByte w` and
`loByte w`. -/
theorem pairsAreViews : Obligations.PairsAreViews := by
  intro s w
  refine ⟨⟨?bc, ?de, ?hl, ?af⟩, ⟨hiByte w, loByte w, hiByte_toNat w, loByte_toNat w, rfl, rfl, rfl, rfl⟩,
    s.bc_setBC w, s.de_setDE w, s.hl_setHL w, s.af_setAF w⟩
  case bc => exact joinBytes_toNat s.b s.c
  case de => exact joinBytes_toNat s.d s.e
  case hl => exact joinBytes_toNat s.h s.l
  case af => exact joinBytes_toNat s.a s.f

end Sys2Proof.Machine
end

section
/-!
PROOFS about the echo region (20_memory.md rules R54, R55): an echo address and the work RAM address 0x2000 below resolve
to one backing address, and the bus sees an address only through what it resolves to.
-/

namespace Sys2Proof.Machine

/-! ### Addresses with one backing address -/

/-- A write depends on its address only through the backing address: the counterpart of `State.peek_of_resolve_eq`. -/
theorem State.poke_of_resolve_eq {s : State} {a b : Word} (h : resolve a = resolve b) (v : Byte) :
    s.poke a v = s.poke b v := by
  simp only [State.poke, h]

theorem mapped_congr {a b : Word} (h : resolve a = resolve b) : Mapped a ↔ Mapped b := by
  rw [← resolve_isSome, ← resolve_isSome, h]

/-- A byte written outside ROM is read at every address with the same backing address. -/
theorem State.peek_poke_of_resolve_eq {s : State} {a x : Word} (h : resolve x = resolve a) (hm : Mapped a)
    (hrom : 0x7FFF < a.toNat) (v : Byte) : (s.poke a v).peek x = v := by
  rw [State.peek_poke, if_pos ⟨h, hm, Nat.not_le.2 hrom⟩]

/-! ### The echo region -/

/-- The address 0x2000 below an echo address lies in work RAM, which resolves to itself. -/
theorem resolve_sub_echo {a : Word} (lo : 0xE000 ≤ a.toNat) (hi : a.toNat ≤ 0xFDFF) :
    resolve (a - 0x2000) = resolve a := by
  have hsub : (a - 0x2000).toNat = a.toNat - 0x2000 := BitVec.toNat_sub_of_le (by bv_omega)
  simp only [resolve, hsub]
  rw [if_neg (by omega), if_neg (by omega), if_pos ⟨lo, hi⟩]

/-! ### The obligation -/

/-- Settles O10: the two addresses resolve alike, so the reads are one `peek` and the writes one `poke`, and the echo
region lies above ROM, so the byte is kept. -/
theorem echoIsWorkRam : Obligations.EchoIsWorkRam := by
  intro s a v lo hi
  have hr : resolve (a - 0x2000) = resolve a := resolve_sub_echo lo hi
  have hm : Mapped a := .inl (by omega)
  have hm' : Mapped (a - 0x2000) := (mapped_congr hr).2 hm
  have hrom : 0x7FFF < a.toNat := by omega
  refine ⟨?read, ?write, s.poke a v, State.writeByte_mapped hm v, ?echo, ?work⟩
  case read => rw [State.readByte_mapped hm, State.readByte_mapped hm', State.peek_of_resolve_eq hr]
  case write => rw [State.writeByte_mapped hm, State.writeByte_mapped hm', State.poke_of_resolve_eq hr]
  case echo => rw [State.readByte_mapped hm, State.peek_poke_of_resolve_eq rfl hm hrom]
  case work => rw [State.readByte_mapped hm', State.peek_poke_of_resolve_eq hr hm hrom]

end Sys2Proof.Machine
end

section
/-!
PROOFS about 8-bit addition and subtraction (42_alu8.md rules R170 and R171): what an ALU operation leaves, in whatever
form it is written, and the result and flags of `add8` and `sub8` as arithmetic on numbers.
-/

namespace Sys2Proof.Machine

/-! ### One ALU operation, in every form -/

@[simp] theorem State.alu_f (s : State) (o : AluOp) (v : Byte) :
    (s.alu o v).f = (aluResult o s.a v s.flagC).2.toByte := by
  cases o <;> rfl

/-- A receives the result, but from CP (R179), and no other register is written. -/
theorem onlyReg_alu (s : State) (o : AluOp) (v : Byte) :
    OnlyReg s (s.alu o v) .a (if o = .cp then s.a else (aluResult o s.a v s.flagC).1) := by
  intro r
  cases r with
  | a => cases o <;> rfl
  | b | c | d | e | h | l => simp [State.reg]

/-- A form of an ALU operation applies it to the operand's value and moves pc past the instruction. -/
theorem AluForm.exec_eq {s : State} {o : AluOp} {i : Instr} {v : Byte} {len : Word} (form : AluForm s o i v len) :
    ∃ n, exec i s = .next ((s.alu o v).advance n) ∧ len = BitVec.ofNat 16 n := by
  cases form with
  | operand h =>
    refine ⟨1, ?_, rfl⟩
    rw [exec_alu, aluOperand, State.readOperand_ok h, except_bind_ok, except_pure, outcome_ok]
  | immediate => exact ⟨2, exec_aluImm o v s, rfl⟩

/-- What every form of an ALU operation does, given what the operation computes: A, the four flags and the frame. -/
theorem AluForm.exec_spec {s : State} {o : AluOp} {i : Instr} {v r : Byte} {len : Word} {g : Flags}
    (form : AluForm s o i v len) (result : aluResult o s.a v s.flagC = (r, g)) :
    ∃ t, exec i s = .next t ∧ OnlyReg s t .a (if o = .cp then s.a else r) ∧ FlagsAre t g.z g.n g.h g.c ∧
      t.sp = s.sp ∧ t.pc = s.pc + len ∧ SameMemory s t ∧ SameOutside s t := by
  obtain ⟨n, hexec, rfl⟩ := form.exec_eq
  have hreg := onlyReg_alu s o v
  have hf : ((s.alu o v).advance n).f = g.toByte := by rw [State.advance_f, State.alu_f, result]
  rw [result] at hreg
  exact ⟨_, hexec, fun x => (State.reg_advance _ n x).trans (hreg x), flagsAre_of hf, by simp, by simp,
    fun x => by simp, (SameOutside.alu s o v).trans (.advance _ n)⟩

/-! ### `add8` and `sub8` as arithmetic on numbers -/

theorem add8_spec (a v : Byte) (cin : Bool) :
    ∃ r : Byte, r.toNat = (a.toNat + v.toNat + cin.toNat) % 256 ∧
      add8 a v cin = (r, ⟨r.toNat = 0, false, 15 < a.toNat % 16 + v.toNat % 16 + cin.toNat,
        255 < a.toNat + v.toNat + cin.toNat⟩) := by
  refine ⟨BitVec.ofNat 8 (a.toNat + v.toNat + cin.toNat), BitVec.toNat_ofNat .., ?_⟩
  simp only [add8, byte_eq_zero_iff, lowNibble_eq]

/-- The borrows of R171 are the comparisons that make the differences negative. -/
theorem sub8_spec (a v : Byte) (cin : Bool) :
    ∃ r : Byte, (r.toNat : Int) = ((a.toNat : Int) - v.toNat - cin.toNat) % 256 ∧
      sub8 a v cin = (r, ⟨r.toNat = 0, true, a.toNat % 16 < v.toNat % 16 + cin.toNat,
        a.toNat < v.toNat + cin.toNat⟩) := by
  have borrow (x y c : Nat) : (x : Int) - y - c < 0 ↔ x < y + c := by omega
  refine ⟨BitVec.ofInt 8 ((a.toNat : Int) - v.toNat - cin.toNat), ?value, ?flags⟩
  case value => rw [BitVec.toNat_ofInt, Int.toNat_of_nonneg (Int.emod_nonneg _ (by decide))]; rfl
  case flags => simp only [sub8, byte_eq_zero_iff, lowNibble_eq, borrow]

/-! ### The obligations -/

/-- Settles O28: both operations are `add8`, ADD with no carry in and ADC with F.C. -/
theorem addAndAdc : Obligations.AddAndAdc := by
  intro s o i v len cin op form
  obtain ⟨c, rfl, result, hcp⟩ : ∃ c : Bool, cin = c.toNat ∧ aluResult o s.a v s.flagC = add8 s.a v c ∧ o ≠ .cp := by
    rcases op with ⟨rfl, rfl⟩ | ⟨rfl, rfl⟩
    · exact ⟨false, rfl, rfl, by decide⟩
    · exact ⟨s.flagC, rfl, rfl, by decide⟩
  obtain ⟨r, hr, hadd⟩ := add8_spec s.a v c
  obtain ⟨t, hexec, hreg, hflags, hframe⟩ := form.exec_spec (result.trans hadd)
  rw [if_neg hcp] at hreg
  obtain rfl : t.a = r := hreg .a
  exact ⟨t, hexec, hr, hreg, hflags, hframe⟩

/-- Settles O29: the three operations are `sub8`, SUB and CP with no borrow in and SBC with F.C; only CP drops the
result. -/
theorem subSbcAndCp : Obligations.SubSbcAndCp := by
  intro s o i v len cin op form
  obtain ⟨c, rfl, result⟩ : ∃ c : Bool, cin = c.toNat ∧ aluResult o s.a v s.flagC = sub8 s.a v c := by
    rcases op with ⟨rfl, rfl⟩ | ⟨rfl, rfl⟩ | ⟨rfl, rfl⟩
    · exact ⟨false, rfl, rfl⟩
    · exact ⟨s.flagC, rfl, rfl⟩
    · exact ⟨false, rfl, rfl⟩
  obtain ⟨r, hr, hsub⟩ := sub8_spec s.a v c
  obtain ⟨t, hexec, hreg, hflags, hframe⟩ := form.exec_spec (result.trans hsub)
  exact ⟨t, r, hexec, hr, hreg, hflags, hframe⟩

end Sys2Proof.Machine
end

section
/-!
PROOFS about the encoding (30_encoding.md rules R91 to R107): what the decoder makes of each instruction's encoding, what
the encoding is of each instruction the decoder makes, and from them the two round trips, ILLEGAL and the cost.
-/

namespace Sys2Proof.Machine

/-! ### From an instruction to its bytes and back -/

/-- The encoding of `i` is an opcode byte and what follows it, as many bytes as the opcode byte says, and the decoder
makes `i` of them, whatever bytes stand after. -/
structure EncodesAs (len : StopLength) (i : Instr) (op : Byte) (tail : List Byte) : Prop where
  encode : encode i = op :: tail
  length : tail.length + 1 = instrLength len op
  decode : ∀ b1 b2, decodeBytes len op (tail.getD 0 b1) (tail.getD 1 b2) = i

/-- A form of three bytes carries its operand word low byte first (R98). -/
theorem encodesAs_word {len : StopLength} {f : Word → Instr} {op : Byte} (nn : Word)
    (hencode : encode (f nn) = [op, loByte nn, hiByte nn]) (hlen : 3 = instrLength len op)
    (hdecode : decodeBytes len op (loByte nn) (hiByte nn) = f (joinBytes (hiByte nn) (loByte nn))) :
    ∃ op tail, EncodesAs len (f nn) op tail :=
  ⟨op, _, hencode, hlen, fun _ _ => by rw [joinBytes_hi_lo] at hdecode; exact hdecode⟩

/-- An instruction of the CB table stands in its second byte (R102). -/
theorem encodesAs_cb {len : StopLength} {i : Instr} {op2 : Byte} (hencode : encode i = [0xCB, op2])
    (hdecode : decodeCB op2 = i) : ∃ op tail, EncodesAs len i op tail :=
  ⟨0xCB, [op2], hencode, rfl, fun _ _ => hdecode⟩

/-- ILLEGAL is its own byte, one of the eleven (R105). -/
theorem encodesAs_illegal {len : StopLength} {op : Byte} (h : illegalOpcodes.contains op = true) :
    EncodesAs len (.illegal op) op [] := by
  have hcb : op ≠ 0xCB := by rintro rfl; revert h; decide
  refine ⟨rfl, ?_, fun _ _ => ?_⟩
  · rw [instrLength, if_neg hcb, if_pos h]; rfl
  · rw [decodeBytes, if_neg hcb, if_pos h]

/-- Every well-formed instruction is read back from its encoding (R91, R94, R102). -/
theorem exists_encodesAs {len : StopLength} {i : Instr} (h : i.wf len = true) : ∃ op tail, EncodesAs len i op tail := by
  induction i using instr_families with
  | h_stopOf l => cases l <;> obtain rfl := of_decide_eq_true h <;> exact ⟨_, _, rfl, rfl, fun _ _ => rfl⟩
  | h_ldRegReg dst src => cases dst <;> cases src <;> exact ⟨_, _, rfl, rfl, fun _ _ => rfl⟩
  | h_ldRegHL r | h_ldHLReg r => cases r <;> exact ⟨_, _, rfl, rfl, fun _ _ => rfl⟩
  | h_ldImm x n => rcases x with (_ | _ | _ | _ | _ | _ | _) | _ <;> exact ⟨_, _, rfl, rfl, fun _ _ => rfl⟩
  | h_ldAccFrom m | h_ldAccTo m =>
    cases m with
    | imm nn => exact encodesAs_word nn rfl rfl rfl
    | _ => exact ⟨_, _, rfl, rfl, fun _ _ => rfl⟩
  | h_ldPairImm p nn => cases p <;> exact encodesAs_word nn rfl rfl rfl
  | h_push q | h_pop q => cases q <;> exact ⟨_, _, rfl, rfl, fun _ _ => rfl⟩
  | h_alu o x =>
    cases o <;> rcases x with (_ | _ | _ | _ | _ | _ | _) | _ <;> exact ⟨_, _, rfl, rfl, fun _ _ => rfl⟩
  | h_aluImm o n => cases o <;> exact ⟨_, _, rfl, rfl, fun _ _ => rfl⟩
  | h_inc8 x | h_dec8 x =>
    rcases x with (_ | _ | _ | _ | _ | _ | _) | _ <;> exact ⟨_, _, rfl, rfl, fun _ _ => rfl⟩
  | h_incPair p | h_decPair p | h_addHLPair p => cases p <;> exact ⟨_, _, rfl, rfl, fun _ _ => rfl⟩
  | h_shift o x => cases o <;> rcases x with (_ | _ | _ | _ | _ | _ | _) | _ <;> exact encodesAs_cb rfl rfl
  | h_bit8 k x | h_res8 k x | h_set8 k x =>
    fin_cases k <;> rcases x with (_ | _ | _ | _ | _ | _ | _) | _ <;> exact encodesAs_cb rfl rfl
  | h_jpCond cc nn | h_callCond cc nn => cases cc <;> exact encodesAs_word nn rfl rfl rfl
  | h_jrCond cc e => cases cc <;> exact ⟨_, _, rfl, rfl, fun _ _ => rfl⟩
  | h_retCond cc => cases cc <;> exact ⟨_, _, rfl, rfl, fun _ _ => rfl⟩
  | h_rst k => fin_cases k <;> exact ⟨_, _, rfl, rfl, fun _ _ => rfl⟩
  | h_ld_atNn_sp nn | h_jp_nn nn | h_call_nn nn => exact encodesAs_word nn rfl rfl rfl
  | h_illegal op => exact ⟨_, _, encodesAs_illegal h⟩
  | _ => exact ⟨_, _, rfl, rfl, fun _ _ => rfl⟩

/-- Where the bytes of an encoding stand first, the decoder takes them and leaves the rest (R104). -/
theorem EncodesAs.decode_append {len : StopLength} {i : Instr} {op : Byte} {tail : List Byte}
    (h : EncodesAs len i op tail) (rest : List Byte) : Sys2Proof.decode len (op :: tail ++ rest) = .ok (i, rest) := by
  have getD_append (k : Nat) : (tail ++ rest).getD k 0 = tail.getD k (rest.getD (k - tail.length) 0) := by
    by_cases hk : k < tail.length
    · rw [List.getD_append _ _ _ _ hk, List.getD_eq_getElem _ _ hk, List.getD_eq_getElem _ _ hk]
    · rw [List.getD_append_right _ _ _ _ (by omega), List.getD_eq_default (n := k) tail _ (by omega)]
  have hlen := h.length
  rw [List.cons_append, Sys2Proof.decode, if_neg (by rw [List.length_append]; omega), getD_append, getD_append,
    h.decode, ← hlen, Nat.add_sub_cancel, List.drop_left]

/-- Settles O1: the encoding is an opcode byte and its operands, which decode to the instruction. -/
theorem encodeThenDecode : Obligations.EncodeThenDecode := by
  intro len i rest h
  obtain ⟨op, tail, hi⟩ := exists_encodesAs h
  rw [hi.encode]
  exact hi.decode_append rest

/-! ### From bytes to an instruction and back -/

/-- What the encoder writes after the opcode byte of an instruction decoded with `b1` and `b2` after it: for STOP a zero,
whatever stood there (R282), and an operand word as its two bytes (R98). -/
def operandBytes (len : StopLength) (op b1 b2 : Byte) : List Byte :=
  match instrLength len op with
  | 1 => []
  | 2 => [if op = 0x10 then 0 else b1]
  | _ => [loByte (joinBytes b2 b1), hiByte (joinBytes b2 b1)]

theorem length_operandBytes (len : StopLength) (op b1 b2 : Byte) :
    (operandBytes len op b1 b2).length + 1 = instrLength len op := by
  unfold operandBytes
  rcases instrLength_cases len op with h | h | h <;> rw [h] <;> rfl

theorem operandBytes_of_ne {op : Byte} (hop : op ≠ 0x10) (len : StopLength) (b1 b2 : Byte) :
    operandBytes len op b1 b2 = [b1, b2].take (instrLength len op - 1) := by
  unfold operandBytes
  rcases instrLength_cases len op with h | h | h <;> rw [h]
  · rfl
  · exact congrArg (fun b => [b]) (if_neg hop)
  · simp

theorem encode_decodeCB (op2 : Byte) : encode (decodeCB op2) = [0xCB, op2] := by revert op2; decide

theorem wf_decodeCB (len : StopLength) (op2 : Byte) : (decodeCB op2).wf len = true := by
  revert op2; cases len <;> decide

/-- Whatever three bytes are decoded, what they decode to is well formed, and its encoding is the bytes it was decoded
from (R92, R104, R105). -/
theorem decodeBytes_spec (len : StopLength) (op b1 b2 : Byte) :
    (decodeBytes len op b1 b2).wf len = true ∧ encode (decodeBytes len op b1 b2) = op :: operandBytes len op b1 b2 := by
  obtain ⟨k, hk, rfl⟩ : ∃ k, k < 256 ∧ op = BitVec.ofNat 8 k := ⟨op.toNat, op.isLt, by simp⟩
  rcases Nat.lt_trichotomy k 0xCB with hlt | rfl | hgt
  · cases len <;> interval_cases k <;> exact ⟨rfl, rfl⟩
  · exact ⟨wf_decodeCB len b1, encode_decodeCB b1⟩
  · cases len <;> interval_cases k <;> exact ⟨rfl, rfl⟩

theorem take_eq_of_getD (r : List Byte) {n : Nat} (hn : n ≤ 2) (hr : n ≤ r.length) :
    [r.getD 0 0, r.getD 1 0].take n = r.take n := by
  obtain rfl | rfl | rfl : n = 0 ∨ n = 1 ∨ n = 2 := by omega
  · rfl
  · match r, hr with
    | _ :: _, _ => rfl
  · match r, hr with
    | _ :: _ :: _, _ => rfl

/-- Settles O2: what decodes is `decodeBytes` of the bytes at the head, STOP the only instruction whose second byte is
not written back. -/
theorem decodeThenEncode : Obligations.DecodeThenEncode := by
  intro len bytes rest i h
  cases bytes with
  | nil => cases h
  | cons op r =>
    rw [Sys2Proof.decode] at h
    split at h
    · cases h
    · next hlen =>
      obtain ⟨rfl, rfl⟩ := Prod.mk.inj (Except.ok.inj h)
      obtain ⟨hwf, hencode⟩ := decodeBytes_spec len op (r.getD 0 0) (r.getD 1 0)
      have hbytes := length_operandBytes len op (r.getD 0 0) (r.getD 1 0)
      rw [hencode]
      refine ⟨hwf, ?drop, ?append⟩
      case drop => rw [List.length_cons, List.drop_succ_cons, ← hbytes, Nat.add_sub_cancel]
      case append =>
        simp only [List.head?_cons, Option.some_inj]
        by_cases hop : op = 0x10
        · subst hop
          rw [if_pos rfl]
          exact ⟨rfl, Nat.le_of_not_lt hlen⟩
        · have hn := instrLength_cases len op
          rw [if_neg hop, operandBytes_of_ne hop, take_eq_of_getD r (by omega) (by omega),
            List.cons_append, List.take_append_drop]

/-- Settles O3: each word is evaluated. -/
theorem specWordsDecode : Obligations.SpecWordsDecode :=
  ⟨fun _ => ⟨rfl, rfl, rfl, rfl, rfl, rfl, rfl, rfl, rfl, rfl, rfl, rfl, rfl, rfl, rfl, rfl, rfl⟩, rfl, rfl⟩

/-! ### ILLEGAL -/

theorem mem_illegalOpcodes_iff {op : Byte} : illegalOpcodes.contains op = true ↔ op ∈ illegalOpcodes :=
  List.contains_iff_mem

/-- ILLEGAL is what the eleven bytes decode to: no other byte makes it well formed (R105). -/
theorem decodeBytes_eq_illegal {len : StopLength} {op b1 b2 : Byte} :
    decodeBytes len op b1 b2 = .illegal op ↔ op ∈ illegalOpcodes := by
  rw [← mem_illegalOpcodes_iff]
  constructor
  · intro h
    have hwf := (decodeBytes_spec len op b1 b2).1
    rw [h] at hwf
    exact hwf
  · intro h
    exact (encodesAs_illegal (len := len) h).decode b1 b2

theorem fetchLength_illegal {op : Byte} (h : op ∈ illegalOpcodes) : fetchLength op = 1 :=
  (encodesAs_illegal (len := .one) (mem_illegalOpcodes_iff.2 h)).length.symm

/-- Settles O4: an unassigned byte is fetched alone and decodes to ILLEGAL, whose meaning is the fault. -/
theorem illegalOpcodesFault : Obligations.IllegalOpcodesFault := by
  refine ⟨fun len op b1 b2 => decodeBytes_eq_illegal, fun op s => rfl, ?_⟩
  rintro cfg op s hop hrun hpc rfl
  have hlen := fetchLength_illegal hop
  have hfetch : s.fetch cfg.stopLength = .ok (.illegal (s.peek s.pc)) := by
    rw [State.fetch_eq, if_pos hpc, if_neg (by omega), if_neg (by omega), decodeBytes_eq_illegal.2 hop]
  rw [stepWith_running hrun, hfetch]
  rfl

/-! ### The cost -/

theorem cost_of_encode {i : Instr} {op : Byte} {rest : List Byte} (h : encode i = op :: rest) (cfg : Config) :
    cost cfg i = if op = 0xCB then cfg.cyclesCB (rest.getD 0 0) else cfg.cyclesMain op := by
  rw [cost, h]

/-- Every instruction but an ILLEGAL of an assigned byte is well formed for one of the values of STOP_LEN. -/
theorem exists_wf {i : Instr} (h : ∀ op, i ≠ .illegal op) : ∃ len, i.wf len = true := by
  cases i with
  | illegal op => exact absurd rfl (h op)
  | stopOneByte => exact ⟨.one, rfl⟩
  | _ => exact ⟨.two, rfl⟩

theorem defaultCyclesMain_range {op : Byte} (h : op ∉ illegalOpcodes) (hcb : op ≠ 0xCB) :
    1 ≤ defaultCyclesMain op ∧ defaultCyclesMain op ≤ 6 := by
  revert op; decide

theorem defaultCyclesCB_range (op2 : Byte) : 1 ≤ defaultCyclesCB op2 ∧ defaultCyclesCB op2 ≤ 6 := by
  revert op2; decide

/-- Settles O49: an instruction's encoding begins with the byte that selects its entry, and every entry of the default
tables but those of the eleven unassigned bytes and of 0xCB is from 1 to 6. -/
theorem costs : Obligations.Costs := by
  refine ⟨?entry, fun cfg n => cfg.ldAnCost, ?range⟩
  case entry =>
    intro cfg i op rest hwf hencode
    refine ⟨fun hop => by rw [cost_of_encode hencode, if_neg hop], ?_⟩
    rintro rfl
    obtain ⟨op, tail, hi⟩ := exists_encodesAs hwf
    obtain ⟨rfl, rfl⟩ := List.cons.inj (hi.encode.symm.trans hencode)
    obtain ⟨op2, rfl⟩ := List.length_eq_one_iff.1 (Nat.succ.inj hi.length)
    exact ⟨op2, rfl, by rw [cost_of_encode hencode, if_pos rfl]; rfl⟩
  case range =>
    intro i hi
    obtain ⟨len, hwf⟩ := exists_wf hi
    obtain ⟨op, tail, h⟩ := exists_encodesAs hwf
    rw [cost_of_encode h.encode]
    split
    · exact defaultCyclesCB_range _
    · next hcb =>
      refine defaultCyclesMain_range (fun hop => ?_) hcb
      exact hi op ((h.decode 0 0).symm.trans (decodeBytes_eq_illegal.2 hop))

end Sys2Proof.Machine
end

section
/-!
PROOFS about a step (49_machine_step.md rules R351 to R356, 30_encoding.md rule R93, 60_exceptions.md rules R372, R373):
what it runs, where its fetch faults, what it keeps, and what a run never changes.
-/

namespace Sys2Proof.Machine

/-! ### What every step keeps -/

/-- What follows the instruction keeps the invariant: the tick its PPU part, and tick and tap the memory. -/
theorem State.inv_afterExecute {u : State} (hflags : u.FlagsInv) (hline : u.LineInv) (hmem : u.MemInv) (cfg : Config)
    (i : Instr) : (u.afterExecute cfg i).Inv := by
  obtain ⟨⟨hacc, hline⟩, -⟩ := State.tick_position hline (cost cfg i)
  have heq := State.afterExecute_eq u cfg i
  generalize ht : u.afterExecute cfg i = t at heq
  have hmemt : t.MemInv := ht ▸ State.memInv_serialTap (State.memInv_tick hmem _) cfg
  rw [heq]
  rw [heq] at hmemt
  exact ⟨hflags, ⟨hacc, hline⟩, hmemt⟩

/-- Settles O60: the instruction keeps F's low nibble and the memory's form and leaves the PPU alone, and tick and tap
keep the rest. -/
theorem stepKeepsInvariant : Obligations.StepKeepsInvariant := by
  intro cfg s t h hstep
  rcases stepWith_next hstep with ⟨-, rfl⟩ | ⟨-, i, u, -, hexec, rfl⟩
  · exact h
  · have heffect := exec_effect i s
    rw [hexec] at heffect
    obtain ⟨e, -, -⟩ := heffect
    have hline : u.LineInv := by
      unfold State.LineInv
      rw [e.ppuMode, e.ppuLine]
      exact h.ppu.2
    exact State.inv_afterExecute (e.flags h.flags) hline (e.mem h.mem) cfg i

/-- Settles O59: reset begins on line 0 with nothing in the accumulator, and the memory is what it is given. -/
theorem resetHasInvariant : Obligations.ResetHasInvariant := by
  have hreset (m : Memory) (fb : Frame) (hwf : m.wf) (hbacked : m.backed) : (State.resetWith m fb).Inv :=
    ⟨show (0xB0 : Byte) &&& 0x0F = 0 by decide, ⟨show 0 < 80 by decide, Nat.zero_le 143⟩, hwf, hbacked⟩
  exact ⟨hreset, hreset [] Frame.blank (by decide) (by decide)⟩

/-! ### ROM -/

theorem State.poke_rom (s : State) {a : Word} (h : a.toNat ≤ 0x7FFF) (v : Byte) : s.poke a v = s := by
  obtain ⟨p, hp⟩ := resolve_of_mapped (a := a) (.inl (by omega))
  obtain ⟨-, -, hrom, -⟩ := resolve_cases hp
  unfold State.poke
  rw [hp]
  exact if_pos (hrom.2 h)

/-- No step writes ROM: neither the instruction nor the tick nor the tap (R53). -/
theorem stepWith_keeps_rom {cfg : Config} {s t : State} (h : stepWith cfg s = .next t) {a : Word}
    (ha : a.toNat ≤ 0x7FFF) : t.peek a = s.peek a := by
  rcases stepWith_next h with ⟨-, rfl⟩ | ⟨-, i, u, -, hexec, rfl⟩
  · rfl
  · have heffect := exec_effect i s
    rw [hexec] at heffect
    have hne : a ≠ scAddr := by rintro rfl; revert ha; decide
    calc (u.afterExecute cfg i).peek a = (u.tick (cost cfg i)).peek a := State.peek_serialTap _ cfg a hne
      _ = u.peek a := State.peek_tick_rom u _ a ha
      _ = s.peek a := heffect.1.rom a ha

/-- Settles O12: by induction on the run, each step keeping what the ROM address reads as. -/
theorem romNeverChanges : Obligations.RomNeverChanges := by
  have hmapped {a : Word} (ha : a.toNat ≤ 0x7FFF) : Mapped a := .inl (by omega)
  refine ⟨fun s a v ha => by rw [State.writeByte_mapped (hmapped ha), State.poke_rom s ha], ?_⟩
  intro cfg s t hrun a ha
  rw [State.readByte_mapped (hmapped ha)]
  induction hrun with
  | refl => rfl
  | tail _ hstep ih => rw [stepWith_keeps_rom hstep ha, ih]

/-! ### What a step runs -/

/-- The fetch is decoding, where the bytes it reads are mapped (R93, R104). -/
theorem State.fetch_of_mapped {s : State} {len : StopLength}
    (h : ∀ k < fetchLength (s.peek s.pc), Mapped (s.pc + BitVec.ofNat 16 k)) :
    s.fetch len = .ok (decodeBytes len (s.peek s.pc) (s.peek (s.pc + 1)) (s.peek (s.pc + 2))) := by
  have h0 : Mapped s.pc := by
    have := h 0 (fetchLength_bounds .one _).1
    rwa [BitVec.add_zero] at this
  rw [State.fetch_eq, if_pos h0, if_neg (fun hc => hc.2 (h 1 hc.1)), if_neg (fun hc => hc.2 (h 2 hc.1))]
  exact congrArg Except.ok (decodeBytes_congr len (fun h2 => if_pos h2) (fun h3 => if_pos h3))

/-- Settles O5: the fetch answers what the bytes at pc decode to, and the rest of the step is `cycle`. -/
theorem stepRunsDecodedInstruction : Obligations.StepRunsDecodedInstruction := by
  refine ⟨?_, fun s => rfl⟩
  intro cfg s i rest hrun hdecode hmapped
  have hi : decodeBytes cfg.stopLength (s.peek s.pc) (s.peek (s.pc + 1)) (s.peek (s.pc + 2)) = i := by
    rw [decode] at hdecode
    split at hdecode
    · cases hdecode
    · exact (Prod.mk.inj (Except.ok.inj hdecode)).1
  rw [stepWith_running hrun, State.fetch_of_mapped hmapped, hi]
  rfl

/-- Settles O6: the fetch reads the bytes in order, each in the state before the step. -/
theorem fetchFaultsAtFirstUnmappedByte : Obligations.FetchFaultsAtFirstUnmappedByte := by
  refine ⟨fun len op => ?length, fun cfg s hrun => ?_⟩
  case length => revert op; cases len <;> decide
  rw [stepWith_running hrun, State.fetch_eq]
  refine ⟨fun h0 => ?first, fun h0 h2 h1 => ?second, fun h0 h1 h3 h2 => ?third⟩
  case first => rw [if_neg h0]
  case second => rw [if_pos h0, if_pos ⟨h2, h1⟩]
  case third => rw [if_pos h0, if_neg (fun hc => hc.2 h1), if_pos ⟨h3, h2⟩]

/-! ### The run-control booleans -/

theorem isStop_eq (i : Instr) : isStop i = decide (i = .stop ∨ i = .stopOneByte) := by
  rw [Bool.eq_iff_iff, decide_eq_true_iff]
  unfold isStop
  split <;> simp_all

theorem isHalt_eq (i : Instr) : isHalt i = decide (i = .halt) := by
  rw [Bool.eq_iff_iff, decide_eq_true_iff]
  unfold isHalt
  split <;> simp_all

/-- Settles O7: by what any instruction can do, and by the frame of the tick and the tap. -/
theorem runControl : Obligations.RunControl := by
  refine ⟨fun i s t h => ?_, fun cfg i s => ?_, fun cfg s h => stepWith_stopped h cfg⟩
  · have heffect := exec_effect i s
    rw [h, isStop_eq, isHalt_eq] at heffect
    exact heffect.2
  · rw [State.afterExecute_eq]
    exact ⟨rfl, rfl⟩

/-- A step that does not execute HALT: with another `halted` it answers the same, with that `halted` (R31, R356). -/
theorem stepWith_withHalted {cfg : Config} {s : State} (h : s.stopped = false → s.fetch cfg.stopLength ≠ .ok .halt)
    (x : Bool) : stepWith cfg (s.withHalted x) = withHaltedOutcome x (stepWith cfg s) := by
  cases hs : s.stopped with
  | true => rw [stepWith_stopped hs, stepWith_stopped (s := s.withHalted x) hs]; rfl
  | false =>
    rw [stepWith_running hs, stepWith_running (s := s.withHalted x) hs, State.fetch_withHalted]
    cases hf : s.fetch cfg.stopLength with
    | error r => rfl
    | ok i =>
      have hi : isHalt i = false := by
        rw [isHalt_eq, decide_eq_false_iff_not]
        rintro rfl
        exact h hs hf
      simp only [cycle, exec_withHalted hi]
      cases exec i s with
      | next t => exact congrArg Host.Outcome.next (State.afterExecute_withHalted t x cfg i)
      | fault r => rfl
      | refused r => rfl

/-- A step that executes HALT sets `halted` (R281). -/
theorem stepWith_halt {cfg : Config} {s : State} (hs : s.stopped = false) (hf : s.fetch cfg.stopLength = .ok .halt) :
    stepWith cfg s = .next (((s.advance 1).afterExecute cfg .halt).withHalted true) := by
  rw [stepWith_running hs, hf, ← State.afterExecute_withHalted]
  rfl

/-- Settles O8: HALT sets `halted` whatever it was, and any other step carries it along. -/
theorem haltedIsReadByNothing : Obligations.HaltedIsReadByNothing := by
  intro cfg s
  by_cases h : s.stopped = false ∧ s.fetch cfg.stopLength = .ok .halt
  · obtain ⟨hs, hf⟩ := h
    rw [stepWith_halt hs hf]
    refine ⟨?_, fun _ _ _ h => (by cases h), fun _ _ _ h => (by cases h)⟩
    rintro t ⟨⟩
    refine ⟨true, fun x => ?_⟩
    have hfx : (s.withHalted x).fetch cfg.stopLength = .ok .halt := by rw [State.fetch_withHalted, hf]
    have hself : (s.withHalted x).advance 1 = (s.advance 1).withHalted x := rfl
    rw [Bool.or_true]
    refine (stepWith_halt (s := s.withHalted x) hs hfx).trans ?_
    rw [hself, State.afterExecute_withHalted]
    rfl
  · have key (x : Bool) : stepWith cfg (s.withHalted x) = withHaltedOutcome x (stepWith cfg s) :=
      stepWith_withHalted (fun hs hf => h ⟨hs, hf⟩) x
    refine ⟨fun t ht => ⟨false, fun x => ?_⟩, fun a u x hf => ?_, fun op u x hf => ?_⟩
    · rw [Bool.or_false]
      exact (key x).trans (congrArg (withHaltedOutcome x) ht)
    · exact (key x).trans (congrArg (withHaltedOutcome x) hf)
    · exact (key x).trans (congrArg (withHaltedOutcome x) hf)

/-! ### Faults -/

/-- No fault of the computation is an unassigned opcode byte. -/
def NoIllegal {α : Type} (x : Except Fault α) : Prop := ∀ op u, x ≠ .error (.illegalOpcode op u)

theorem NoIllegal.ok {α : Type} (a : α) : NoIllegal (.ok a) := by intro op u h; cases h

theorem NoIllegal.bind {α β : Type} {x : Except Fault α} {f : α → Except Fault β} (hx : NoIllegal x)
    (hf : ∀ a, NoIllegal (f a)) : NoIllegal (x >>= f) := by
  intro op u h
  rcases except_bind_eq_error h with h | ⟨a, -, h⟩
  · exact hx op u h
  · exact hf a op u h

theorem NoIllegal.readByte (s : State) (a : Word) : NoIllegal (s.readByte a) := by
  intro op u h
  rcases State.readByte_cases s a with ⟨-, he⟩ | ⟨-, he⟩ <;> rw [he] at h <;> cases h

theorem NoIllegal.writeByte (s : State) (a : Word) (v : Byte) : NoIllegal (s.writeByte a v) := by
  intro op u h
  rcases State.writeByte_cases s a v with ⟨-, he⟩ | ⟨-, he⟩ <;> rw [he] at h <;> cases h

theorem NoIllegal.readOperand (s : State) (x : Operand8) : NoIllegal (s.readOperand x) := by
  cases x with
  | reg r => exact .ok _
  | atHL => exact .readByte s _

theorem NoIllegal.writeOperand (s : State) (x : Operand8) (v : Byte) : NoIllegal (s.writeOperand x v) := by
  cases x with
  | reg r => exact .ok _
  | atHL => exact .writeByte s _ v

theorem NoIllegal.writeWord (s : State) (a w : Word) : NoIllegal (s.writeWord a w) :=
  (NoIllegal.writeByte s _ _).bind fun _ => .writeByte _ _ _

theorem NoIllegal.push16 (s : State) (w : Word) : NoIllegal (s.push16 w) :=
  (NoIllegal.writeByte _ _ _).bind fun _ => .writeByte _ _ _

theorem NoIllegal.pop16 (s : State) : NoIllegal s.pop16 :=
  (NoIllegal.readByte _ _).bind fun _ => (NoIllegal.readByte _ _).bind fun _ => .ok _

theorem NoIllegal.outcome {x : Except Fault State} (h : NoIllegal x) (op : Byte) (u : State) :
    Machine.outcome x ≠ .fault (.illegalOpcode op u) := fun he => h op u (outcome_eq_fault.1 he)

/-- Only ILLEGAL reports an unassigned opcode byte, and it reports its own (R285). -/
theorem exec_illegalOpcode {i : Instr} {s : State} {op : Byte} {u : State}
    (h : exec i s = .fault (.illegalOpcode op u)) : i = .illegal op := by
  have hcall (nn : Word) : call nn s ≠ .fault (.illegalOpcode op u) :=
    ((NoIllegal.push16 s _).bind fun _ => .ok _).outcome op u
  have hreturn : returnFrom s ≠ .fault (.illegalOpcode op u) := ((NoIllegal.pop16 s).bind fun _ => .ok _).outcome op u
  induction i using instr_families with
  | h_illegal op' => cases h; rfl
  | h_ldRegHL dst =>
    rw [exec_ldRegHL] at h
    exact (((NoIllegal.readByte s _).bind fun _ => .ok _).outcome op u h).elim
  | h_ldHLReg src =>
    rw [exec_ldHLReg] at h
    exact (((NoIllegal.writeByte s _ _).bind fun _ => .ok _).outcome op u h).elim
  | h_ldImm x n =>
    rw [exec_ldImm] at h
    exact (((NoIllegal.writeOperand s x n).bind fun _ => .ok _).outcome op u h).elim
  | h_ldAccFrom m =>
    rw [exec_ldAccFrom] at h
    exact (((NoIllegal.readByte s _).bind fun _ => .ok _).outcome op u h).elim
  | h_ldAccTo m =>
    rw [exec_ldAccTo] at h
    exact (((NoIllegal.writeByte s _ _).bind fun _ => .ok _).outcome op u h).elim
  | h_push q =>
    rw [exec_push] at h
    exact (((NoIllegal.push16 s _).bind fun _ => .ok _).outcome op u h).elim
  | h_pop q =>
    rw [exec_pop] at h
    exact (((NoIllegal.pop16 s).bind fun _ => .ok _).outcome op u h).elim
  | h_alu o x =>
    rw [exec_alu] at h
    exact (((NoIllegal.readOperand s x).bind fun _ => .ok _).outcome op u h).elim
  | h_inc8 x =>
    rw [exec_inc8] at h
    exact (((NoIllegal.readOperand s x).bind fun _ => (NoIllegal.writeOperand s x _).bind fun _ => .ok _).outcome
      op u h).elim
  | h_dec8 x =>
    rw [exec_dec8] at h
    exact (((NoIllegal.readOperand s x).bind fun _ => (NoIllegal.writeOperand s x _).bind fun _ => .ok _).outcome
      op u h).elim
  | h_shift o x =>
    rw [exec_shift] at h
    exact (((NoIllegal.readOperand s x).bind fun _ => (NoIllegal.writeOperand s x _).bind fun _ => .ok _).outcome
      op u h).elim
  | h_bit8 k x =>
    rw [exec_bit8] at h
    exact (((NoIllegal.readOperand s x).bind fun _ => .ok _).outcome op u h).elim
  | h_res8 k x =>
    rw [exec_res8] at h
    exact (((NoIllegal.readOperand s x).bind fun _ => (NoIllegal.writeOperand s x _).bind fun _ => .ok _).outcome
      op u h).elim
  | h_set8 k x =>
    rw [exec_set8] at h
    exact (((NoIllegal.readOperand s x).bind fun _ => (NoIllegal.writeOperand s x _).bind fun _ => .ok _).outcome
      op u h).elim
  | h_callCond cc nn =>
    rw [exec_callCond, callIf] at h
    split at h
    · exact (hcall nn h).elim
    · cases h
  | h_retCond cc =>
    rw [exec_retCond, returnIf] at h
    split at h
    · exact (hreturn h).elim
    · cases h
  | h_rst k =>
    rw [exec_rst] at h
    exact (((NoIllegal.push16 s _).bind fun _ => .ok _).outcome op u h).elim
  | h_ld_atNn_sp nn => exact (((NoIllegal.writeWord s nn _).bind fun _ => .ok _).outcome op u h).elim
  | h_call_nn nn => exact (hcall nn h).elim
  | h_ret | h_reti => exact (hreturn h).elim
  | h_stopOf len => rw [exec_stopOf] at h; cases h
  | h_ldRegReg dst src => rw [exec_ldRegReg] at h; cases h
  | h_ldPairImm p nn => rw [exec_ldPairImm] at h; cases h
  | h_aluImm o n => rw [exec_aluImm] at h; cases h
  | h_incPair p => rw [exec_incPair] at h; cases h
  | h_decPair p => rw [exec_decPair] at h; cases h
  | h_addHLPair p => rw [exec_addHLPair] at h; cases h
  | h_jpCond cc nn => rw [exec_jpCond] at h; cases h
  | h_jrCond cc e => rw [exec_jrCond] at h; cases h
  | _ => cases h

/-- A fetch that faults reports an unmapped address, and nothing has been written (R93, R378). -/
theorem State.fetch_eq_error {s : State} {len : StopLength} {r : Fault} (h : s.fetch len = .error r) :
    ∃ a, ¬Mapped a ∧ r = .unmappedAddress a s := by
  rw [State.fetch_eq] at h
  split at h
  · split at h
    · next h1 => exact ⟨_, h1.2, (Except.error.inj h).symm⟩
    · split at h
      · next h2 => exact ⟨_, h2.2, (Except.error.inj h).symm⟩
      · cases h
  · next h0 => exact ⟨_, h0, (Except.error.inj h).symm⟩

/-- A fetch of ILLEGAL read one of the eleven bytes at pc (R105). -/
theorem State.fetch_eq_illegal {s : State} {len : StopLength} {op : Byte} (h : s.fetch len = .ok (.illegal op)) :
    op = s.peek s.pc ∧ op ∈ illegalOpcodes := by
  obtain ⟨b1, b2, hdecode⟩ : ∃ b1 b2, decodeBytes len (s.peek s.pc) b1 b2 = .illegal op := by
    rw [State.fetch_eq] at h
    split at h
    · split at h
      · cases h
      · split at h
        · cases h
        · exact ⟨_, _, Except.ok.inj h⟩
    · cases h
  obtain ⟨hwf, hencode⟩ := decodeBytes_spec len (s.peek s.pc) b1 b2
  rw [hdecode] at hwf hencode
  exact ⟨(List.cons.inj hencode).1, mem_illegalOpcodes_iff.1 hwf⟩

/-- Settles O45: a step that faults does so in its fetch, before anything is written, or in its instruction. -/
theorem faultsArePrecise : Obligations.FaultsArePrecise := by
  intro cfg s
  refine ⟨stepWith_ne_refused cfg s, fun a u h => ?unmapped, fun op u h => ?illegal⟩
  case unmapped =>
    obtain ⟨-, hfetch | ⟨i, -, hexec⟩⟩ := stepWith_fault h
    · obtain ⟨a', ha, he⟩ := State.fetch_eq_error hfetch
      cases he
      exact ⟨ha, rfl, fun x hx => rfl⟩
    · have heffect := exec_effect i s
      rw [hexec] at heffect
      obtain ⟨ha, e, hframe⟩ := heffect
      exact ⟨ha, hframe, e.rom⟩
  case illegal =>
    obtain ⟨-, hfetch | ⟨i, hfetch, hexec⟩⟩ := stepWith_fault h
    · obtain ⟨a, -, he⟩ := State.fetch_eq_error hfetch
      cases he
    · have heffect := exec_effect i s
      rw [hexec] at heffect
      rw [exec_illegalOpcode hexec] at hfetch
      exact ⟨heffect, State.fetch_eq_illegal hfetch⟩

/-- Settles O58: the fields are those of R44. -/
theorem resetValues : Obligations.ResetValues := by
  rintro m fb s rfl
  have hflags : FlagsAre (State.resetWith m fb) true false true true :=
    flagsAre_of (g := ⟨true, false, true, true⟩) (show (0xB0 : Byte) = _ by decide)
  obtain ⟨hbc, hde, hhl, haf⟩ : joinBytes 0x00 0x13 = 0x0013 ∧ joinBytes 0x00 0xD8 = 0x00D8 ∧
      joinBytes 0x01 0x4D = 0x014D ∧ joinBytes 0x01 0xB0 = 0x01B0 := by decide
  refine ⟨rfl, rfl, rfl, rfl, rfl, rfl, rfl, rfl, hflags, ?_⟩
  exact ⟨hbc, hde, hhl, haf, rfl, rfl, rfl, rfl, rfl, rfl, rfl, rfl, rfl, rfl, rfl⟩

end Sys2Proof.Machine
end

section
/-!
PROOFS about the bus and the stack (20_memory.md rules R60 to R64, 41_load16_stack.md rules R150, R151, R153, R156 to
R159): bytes, words, push and pop, each with what it changes, where it faults and what it has done by then.
-/

namespace Sys2Proof.Machine

/-! ### Addresses -/

theorem sub_one_sub_one (w : Word) : w - 1 - 1 = w - 2 := by bv_omega

theorem sub_two_add_one (w : Word) : w - 2 + 1 = w - 1 := by bv_omega

theorem sub_two_add_two (w : Word) : w - 2 + 2 = w := by bv_omega

theorem add_one_add_one (w : Word) : w + 1 + 1 = w + 2 := by bv_omega

/-! ### Frames -/

/-- A state that differs in SP and memory at most: what an access of the stack may change. -/
def OnlyStack (s t : State) : Prop := t = { s with sp := t.sp, mem := t.mem }

theorem OnlyStack.of_eq {s t : State} {w : Word} (h : t = { s with sp := w, mem := t.mem }) : OnlyStack s t := by
  unfold OnlyStack
  rw [h]

theorem OnlyStack.of_mem {s t : State} (h : t = { s with mem := t.mem }) : OnlyStack s t := by
  unfold OnlyStack
  rw [h]

section
variable {s t : State} (h : OnlyStack s t)
include h

theorem OnlyStack.sameRegs : SameRegs s t := by rw [h]; intro r; cases r <;> rfl

theorem OnlyStack.f : t.f = s.f := by rw [h]

theorem OnlyStack.pc : t.pc = s.pc := by rw [h]

theorem OnlyStack.sameOutside : SameOutside s t := by rw [h]; exact ⟨rfl, rfl, rfl, rfl, rfl, rfl, rfl, rfl⟩

end

/-- Of two writes, too, memory is all that changes. -/
theorem State.poke_poke_eq (s : State) (a b : Word) (v w : Byte) :
    (s.poke a v).poke b w = { s with mem := ((s.poke a v).poke b w).mem } := by
  rw [State.poke_eq (s.poke a v), State.poke_eq s]

/-! ### Bytes -/

/-- Settles O9: by the range of the address, and by what the store reads as after a write. -/
theorem busReadAndWrite : Obligations.BusReadAndWrite := by
  refine ⟨fun a => ⟨fun lo hi => if_pos ⟨lo, hi⟩, fun lo hi => ?gap, fun h => ?plain⟩,
    fun s a v => ⟨fun h => ?unmapped, fun p h => ?mapped⟩⟩
  case gap => exact (if_neg (by omega)).trans (if_pos ⟨lo, hi⟩)
  case plain => exact (if_neg (by omega)).trans (if_neg (by omega))
  case unmapped =>
    have hm := resolve_eq_none.1 h
    exact ⟨State.readByte_unmapped hm, State.writeByte_unmapped hm v⟩
  case mapped =>
    obtain ⟨hm, -, -, -⟩ := resolve_cases h
    refine ⟨by rw [State.readByte_mapped hm, State.peek_eq h], _, State.writeByte_mapped hm v, State.poke_eq s a v, ?_⟩
    intro q
    rw [State.poke_mem h, isRom]
    by_cases hrom : p ≤ 0x7FFF
    · rw [if_pos (decide_eq_true hrom), if_neg (by omega)]
    · rw [if_neg (by simpa using hrom), Memory.get_put]
      simp only [Nat.lt_of_not_le hrom, and_true]

/-! ### Words -/

theorem State.readWord_low_unmapped {s : State} {a : Word} (h : ¬Mapped a) :
    s.readWord a = .error (.unmappedAddress a s) := by
  rw [State.readWord, State.readByte_unmapped h, except_bind_error]

theorem State.readWord_high_unmapped {s : State} {a : Word} (h : Mapped a) (h' : ¬Mapped (a + 1)) :
    s.readWord a = .error (.unmappedAddress (a + 1) s) := by
  rw [State.readWord, State.readByte_mapped h, except_bind_ok, State.readByte_unmapped h', except_bind_error]

theorem State.writeWord_low_unmapped {s : State} {a : Word} (h : ¬Mapped a) (w : Word) :
    s.writeWord a w = .error (.unmappedAddress a s) := by
  rw [State.writeWord, State.writeByte_unmapped h, except_bind_error]

theorem State.writeWord_high_unmapped {s : State} {a : Word} (h : Mapped a) (h' : ¬Mapped (a + 1)) (w : Word) :
    s.writeWord a w = .error (.unmappedAddress (a + 1) (s.poke a (loByte w))) := by
  rw [State.writeWord, State.writeByte_mapped h, except_bind_ok, State.writeByte_unmapped h']

/-- Settles O11: a word is its two byte accesses, and the low byte is written before the high byte can fault. -/
theorem wordAccess : Obligations.WordAccess := by
  intro s a w
  refine ⟨fun h h' => ?both, fun h => ⟨State.readWord_low_unmapped h, State.writeWord_low_unmapped h w⟩,
    fun h h' => ?high⟩
  case both =>
    exact ⟨⟨_, State.readWord_mapped h h', joinBytes_toNat _ _⟩, _, State.writeWord_mapped h h' w,
      State.poke_poke_eq s _ _ _ _, (State.storedWord_poke s rfl h h' w).1⟩
  case high =>
    exact ⟨State.readWord_high_unmapped h h', _, State.writeWord_high_unmapped h h' w, State.poke_eq s _ _,
      State.stored_poke s h _⟩

/-- Settles O24: the word store, and then pc. -/
theorem storeStackPointer : Obligations.StoreStackPointer := by
  intro nn s h h'
  have hexec : exec (.ld_atNn_sp nn) s = outcome (s.writeWord nn s.sp >>= fun t => pure (t.advance 3)) := rfl
  rw [hexec, State.writeWord_mapped h h']
  have hframe := OnlyStack.of_mem (State.poke_poke_eq s nn (nn + 1) (loByte s.sp) (hiByte s.sp))
  exact ⟨_, rfl, (State.storedWord_poke s rfl h h' s.sp).1.congr rfl, fun r => by simp, by simp, by simp, by simp,
    hframe.sameOutside.trans (.advance _ 3)⟩

/-! ### Push and pop -/

/-- A push that does not fault (R150). -/
theorem State.push16_ok {s : State} (h : Mapped (s.sp - 1)) (h' : Mapped (s.sp - 2)) (w : Word) :
    ∃ t, s.push16 w = .ok t ∧ t = { s with sp := s.sp - 2, mem := t.mem } ∧ StoredWord s t (s.sp - 2) w := by
  rw [← sub_one_sub_one] at h'
  refine ⟨_, State.push16_mapped h h' w, ?frame, ?stored⟩
  case frame => rw [State.poke_poke_eq, sub_one_sub_one]
  case stored =>
    rw [← sub_one_sub_one]
    exact (State.storedWord_poke s (by bv_omega) h' h w).2.congr rfl

theorem State.push16_high_unmapped {s : State} (h : ¬Mapped (s.sp - 1)) (w : Word) :
    s.push16 w = .error (.unmappedAddress (s.sp - 1) { s with sp := s.sp - 1 }) := by
  rw [State.push16, State.writeByte_unmapped (s := { s with sp := s.sp - 1 }) h, except_bind_error]

/-- A push that faults at its second byte has moved SP twice and stored the high byte (R354, D20). -/
theorem State.push16_low_unmapped {s : State} (h : Mapped (s.sp - 1)) (h' : ¬Mapped (s.sp - 2)) (w : Word) :
    ∃ u, s.push16 w = .error (.unmappedAddress (s.sp - 2) u) ∧ u = { s with sp := s.sp - 2, mem := u.mem } ∧
      Stored s u (s.sp - 1) (hiByte w) := by
  refine ⟨{ s.poke (s.sp - 1) (hiByte w) with sp := s.sp - 2 }, ?fault, ?frame, (State.stored_poke s h _).congr rfl⟩
  case fault =>
    rw [State.push16, State.writeByte_mapped (s := { s with sp := s.sp - 1 }) h, except_bind_ok, State.poke_setSP]
    dsimp only
    rw [sub_one_sub_one, State.writeByte_unmapped h']
  case frame => rw [State.poke_eq]

/-- A pop that does not fault (R151). -/
theorem State.pop16_ok {s : State} (h : Mapped s.sp) (h' : Mapped (s.sp + 1)) :
    s.pop16 = .ok (joinBytes (s.peek (s.sp + 1)) (s.peek s.sp), { s with sp := s.sp + 2 }) := by
  rw [State.pop16_mapped h h', add_one_add_one]

theorem State.pop16_low_unmapped {s : State} (h : ¬Mapped s.sp) : s.pop16 = .error (.unmappedAddress s.sp s) := by
  rw [State.pop16, State.readByte_unmapped h, except_bind_error]

/-- A pop that faults at its second byte has moved SP past the first (R354, D20). -/
theorem State.pop16_high_unmapped {s : State} (h : Mapped s.sp) (h' : ¬Mapped (s.sp + 1)) :
    s.pop16 = .error (.unmappedAddress (s.sp + 1) { s with sp := s.sp + 1 }) := by
  rw [State.pop16, State.readByte_mapped h, except_bind_ok]
  exact congrArg (· >>= _) (State.readByte_unmapped (s := { s with sp := s.sp + 1 }) h')

/-- Settles O15: the two byte writes of the push, in order. -/
theorem pushesHighByteThenLowByte : Obligations.PushesHighByteThenLowByte := fun _ w =>
  ⟨fun h h' => State.push16_ok h h' w, fun h => State.push16_high_unmapped h w,
    fun h h' => State.push16_low_unmapped h h' w⟩

/-- Settles O16: the two byte reads of the pop, in order. -/
theorem popsLowByteThenHighByte : Obligations.PopsLowByteThenHighByte := fun _ =>
  ⟨fun h h' => ⟨_, State.pop16_ok h h', joinBytes_toNat _ _⟩, State.pop16_low_unmapped, State.pop16_high_unmapped⟩

/-- PUSH, where the stack is mapped (R156, R157). -/
theorem exec_push_ok (q : StackPair) {s : State} (h : Mapped (s.sp - 1)) (h' : Mapped (s.sp - 2)) :
    ∃ t, exec (.push q) s = .next (t.advance 1) ∧ t = { s with sp := s.sp - 2, mem := t.mem } ∧
      StoredWord s t (s.sp - 2) (s.stackPair q) := by
  obtain ⟨t, hpush, hframe, hstored⟩ := State.push16_ok h h' (s.stackPair q)
  refine ⟨t, ?_, hframe, hstored⟩
  rw [exec_push, pushPair, hpush]
  rfl

/-- POP, where the stack is mapped (R158, R159). -/
theorem exec_pop_ok (q : StackPair) {s : State} (h : Mapped s.sp) (h' : Mapped (s.sp + 1)) :
    exec (.pop q) s = .next (((s.setPair .sp (s.sp + 2)).setStackPair q
      (joinBytes (s.peek (s.sp + 1)) (s.peek s.sp))).advance 1) := by
  rw [exec_pop, popPair, State.pop16_ok h h']
  rfl

@[simp] theorem State.setPair_sp_sp (s : State) (w : Word) : (s.setPair .sp w).sp = w := rfl

@[simp] theorem State.reg_setPair_sp (s : State) (w : Word) (r : Reg8) : (s.setPair .sp w).reg r = s.reg r := by
  cases r <;> rfl

theorem State.reg_setBC (s : State) (hi lo : Byte) (r : Reg8) :
    (s.setBC (joinBytes hi lo)).reg r = if r = .b then hi else if r = .c then lo else s.reg r := by
  cases r <;> simp [State.setBC, State.reg]

theorem State.reg_setDE (s : State) (hi lo : Byte) (r : Reg8) :
    (s.setDE (joinBytes hi lo)).reg r = if r = .d then hi else if r = .e then lo else s.reg r := by
  cases r <;> simp [State.setDE, State.reg]

theorem State.reg_setHL (s : State) (hi lo : Byte) (r : Reg8) :
    (s.setHL (joinBytes hi lo)).reg r = if r = .h then hi else if r = .l then lo else s.reg r := by
  cases r <;> simp [State.setHL, State.reg]

theorem State.reg_setAF (s : State) (hi lo : Byte) (r : Reg8) :
    (s.setAF (joinBytes hi lo)).reg r = if r = .a then hi else s.reg r := by
  cases r <;> simp [State.setAF, State.reg]

/-- What a pair holds after a write to it: AF loses the low nibble of F (R26, R27). -/
theorem State.stackPair_setStackPair (s : State) (q : StackPair) (w : Word) :
    (s.setStackPair q w).stackPair q = (match q with
      | .af => w &&& 0xFFF0
      | _ => w) := by
  cases q
  · exact State.bc_setBC s w
  · exact State.de_setDE s w
  · exact State.hl_setHL s w
  · exact State.af_setAF s w

/-- The word on a stack outside ROM is read back (R53). -/
theorem StoredWord.peek_eq {s t : State} {a w : Word} (h : StoredWord s t a w) (ha : 0x7FFF < a.toNat)
    (hb : 0x7FFF < (a + 1).toNat) : joinBytes (t.peek (a + 1)) (t.peek a) = w := by
  obtain ⟨hlow, hhigh, -⟩ := h
  rw [hlow a rfl, hhigh (a + 1) rfl, if_neg (Nat.not_le.2 ha), if_neg (Nat.not_le.2 hb), joinBytes_hi_lo]

/-- Settles O17: the pop reads, at the same two addresses, what the push stored there. -/
theorem popRestoresWhatPushSaved : Obligations.PopRestoresWhatPushSaved := by
  intro p q s h h' hrom hrom'
  obtain ⟨t, hpush, hframe, hstored⟩ := exec_push_ok p h h'
  have hsp : (t.advance 1).sp = s.sp - 2 := by rw [hframe]; rfl
  rw [← sub_two_add_one] at h hrom
  have hpop := exec_pop_ok q (s := t.advance 1) (by rw [hsp]; exact h') (by rw [hsp]; exact h)
  rw [hsp, State.peek_advance, State.peek_advance, hstored.peek_eq hrom' hrom, sub_two_add_two] at hpop
  refine ⟨_, _, hpush, hpop, by simp, ?pair⟩
  case pair =>
    refine Eq.trans ?_ (State.stackPair_setStackPair ((t.advance 1).setPair .sp s.sp) q (s.stackPair p))
    cases q <;> rfl

end Sys2Proof.Machine

namespace Sys2Proof

open Machine

/-- Settles O26: the push of the pair, and then pc. -/
theorem pushPair : Obligations.PushPair := by
  intro q s h h'
  obtain ⟨t, hexec, hframe, hstored⟩ := exec_push_ok q h h'
  have hstack := OnlyStack.of_eq hframe
  refine ⟨_, hexec, ?stored, hstack.sameRegs, hstack.f, by rw [hframe]; rfl, congrArg (· + 1) hstack.pc,
    hstack.sameOutside.trans (.advance _ 1)⟩
  case stored => cases q <;> exact hstored.congr rfl

/-- Settles O27: the pop into the pair, and then pc. -/
theorem popPair : Obligations.PopPair := by
  intro q s h h'
  refine ⟨_, exec_pop_ok q h h', by simp, by simp, fun x => by simp, ?outside, ?pair⟩
  case outside => exact ((SameOutside.setPair s .sp _).trans (.setStackPair _ q _)).trans (.advance _ 1)
  case pair =>
    cases q with
    | bc => exact ⟨rfl, fun r => by simp [State.setStackPair, State.reg_setBC]⟩
    | de => exact ⟨rfl, fun r => by simp [State.setStackPair, State.reg_setDE]⟩
    | hl => exact ⟨rfl, fun r => by simp [State.setStackPair, State.reg_setHL]⟩
    | af => exact ⟨by simp [State.setStackPair, State.setAF], fun r => by simp [State.setStackPair, State.reg_setAF]⟩

end Sys2Proof
end

section
/-!
PROOFS about the loads (40_load8.md rules R120 to R138, 41_load16_stack.md rules R152 to R155) and 16-bit arithmetic
(43_alu16.md rules R210 to R213): result, flags and frame.
-/

namespace Sys2Proof.Machine

/-! ### 8-bit loads -/

/-- Settles O18: one register write, and then pc. -/
theorem loadRegisterFromRegister : Obligations.LoadRegisterFromRegister := fun dst src s =>
  ⟨_, exec_ldRegReg dst src s, fun r => by simp, by simp, by simp, by simp, fun x => by simp,
    (SameOutside.setReg s dst _).trans (.advance _ 1)⟩

/-- Settles O19: one access at HL, and then pc. -/
theorem loadAndStoreThroughHL : Obligations.LoadAndStoreThroughHL := by
  intro r s h
  refine ⟨⟨(s.setReg r (s.peek s.hl)).advance 1, ?load, fun r' => by simp, by simp, by simp, by simp, fun x => by simp,
      (SameOutside.setReg s r _).trans (.advance _ 1)⟩,
    ⟨(s.poke s.hl (s.reg r)).advance 1, ?store, fun r' => by simp, by simp, by simp, by simp,
      (State.stored_poke s h _).congr rfl, (SameOutside.poke s _ _).trans (.advance _ 1)⟩⟩
  case load => rw [exec_ldRegHL, loadRegHL, State.readByte_mapped h]; rfl
  case store => rw [exec_ldHLReg, storeHLReg, State.writeByte_mapped h]; rfl

/-- Settles O20: the operand written, and then pc. -/
theorem loadImmediate : Obligations.LoadImmediate := by
  intro x n s h
  obtain ⟨t, hwrite, hoperand, hf, hsp, hpc, hout⟩ := State.writeOperand_ok s x n h
  refine ⟨t.advance 2, ?exec, hoperand.congr (fun r => by simp) rfl, hf, hsp, congrArg (· + 2) hpc,
    hout.trans (.advance t 2)⟩
  case exec => rw [exec_ldImm, loadImm, hwrite]; rfl

/-- The address, what HL becomes and the length of each form of an accumulator load or store, as R125 to R138 give
them. -/
def accForm (s : State) (m : AccAddr) : Word × Word × Word :=
  match m with
  | .bc => (s.bc, s.hl, 1)
  | .de => (s.de, s.hl, 1)
  | .imm nn => (nn, s.hl, 3)
  | .high n => (0xFF00 + n.setWidth 16, s.hl, 2)
  | .highC => (0xFF00 + s.c.setWidth 16, s.hl, 1)
  | .hlInc => (s.hl, s.hl + 1, 1)
  | .hlDec => (s.hl, s.hl - 1, 1)

theorem accForm_eq (s : State) (m : AccAddr) :
    accForm s m = (s.accAddress m, (s.accAfter m).hl, BitVec.ofNat 16 (accLength m)) := by
  cases m <;> simp [accForm, State.accAddress, State.accAfter, accLength, highPage_eq]

/-- A form in the high page needs no premise: the page is mapped (R371). -/
theorem accAddress_mapped {s : State} {m : AccAddr} (h : Mapped (s.accAddress m) ∨ (∃ n, m = .high n) ∨ m = .highC) :
    Mapped (s.accAddress m) := by
  rcases h with h | ⟨n, rfl⟩ | rfl
  · exact h
  · exact highPage_mapped n
  · exact highPage_mapped s.c

/-- What the form does to HL does not depend on A or on memory. -/
theorem State.hl_accAfter_congr {s t : State} (h : t.hl = s.hl) (m : AccAddr) : (t.accAfter m).hl = (s.accAfter m).hl := by
  cases m <;> simp [State.accAfter, h]

/-- Settles O21: the read at the form's address, and then HL and pc. -/
theorem loadAccumulator : Obligations.LoadAccumulator := by
  intro m s addr hl len hform hmapped
  obtain ⟨rfl, rfl, rfl⟩ : addr = s.accAddress m ∧ hl = (s.accAfter m).hl ∧ len = BitVec.ofNat 16 (accLength m) := by
    simpa using hform.trans (accForm_eq s m)
  have h := accAddress_mapped hmapped
  refine ⟨((s.setReg .a (s.peek (s.accAddress m))).accAfter m).advance (accLength m), ?exec, ?a, ?b, ?c, ?d, ?e, ?hl,
    by simp, by simp, by simp, fun x => by simp, ?outside⟩
  case exec => rw [exec_ldAccFrom, loadAcc, State.readByte_mapped h]; rfl
  case hl => exact State.hl_accAfter_congr (s := s) (t := s.setReg .a (s.peek (s.accAddress m))) rfl m
  case outside => exact ((SameOutside.setReg s .a _).trans (.accAfter _ m)).trans (.advance _ _)
  all_goals simp [State.setReg]

/-- Settles O22: the write at the form's address, and then HL and pc. -/
theorem storeAccumulator : Obligations.StoreAccumulator := by
  intro m s addr hl len hform hmapped
  obtain ⟨rfl, rfl, rfl⟩ : addr = s.accAddress m ∧ hl = (s.accAfter m).hl ∧ len = BitVec.ofNat 16 (accLength m) := by
    simpa using hform.trans (accForm_eq s m)
  have h := accAddress_mapped hmapped
  refine ⟨((s.poke (s.accAddress m) s.a).accAfter m).advance (accLength m), ?exec, ?stored, by simp, by simp, by simp,
    by simp, by simp, ?hl, by simp, by simp, by simp, ?outside⟩
  case exec => rw [exec_ldAccTo, storeAcc, State.writeByte_mapped h]; rfl
  case stored => exact (State.stored_poke s h s.a).congr (by simp)
  case hl => exact State.hl_accAfter_congr (by simp) m
  case outside => exact ((SameOutside.poke s _ _).trans (.accAfter _ m)).trans (.advance _ _)

/-! ### 16-bit loads and arithmetic -/

theorem OnlyPair.congr {s t u : State} {p : Pair} {w : Word} (h : OnlyPair s t p w) (hr : ∀ r, u.reg r = t.reg r)
    (hsp : u.sp = t.sp) : OnlyPair s u p w := by
  cases p <;> exact ⟨fun r => (hr r).trans (h.1 r), hsp.trans h.2⟩

/-- A pair written, and then pc (R152, R154, R210, R211). -/
theorem setPair_advance (s : State) (p : Pair) (w : Word) (n : Nat) :
    let t := (s.setPair p w).advance n
    OnlyPair s t p w ∧ t.f = s.f ∧ t.pc = s.pc + BitVec.ofNat 16 n ∧ SameMemory s t ∧ SameOutside s t :=
  ⟨(onlyPair_setPair s p w).congr (fun r => by simp) rfl, by simp, by simp, fun x => by simp,
    (SameOutside.setPair s p w).trans (.advance _ n)⟩

/-- A pair and the flags written, and then pc (R155, R212, R213). -/
theorem setPair_setFlags_advance (s : State) (p : Pair) (w : Word) (g : Flags) (n : Nat) :
    let t := ((s.setPair p w).setFlags g).advance n
    OnlyPair s t p w ∧ FlagsAre t g.z g.n g.h g.c ∧ t.pc = s.pc + BitVec.ofNat 16 n ∧ SameMemory s t ∧
      SameOutside s t :=
  ⟨(onlyPair_setPair s p w).congr (fun r => by simp) rfl, flagsAre_of rfl, by simp, fun x => by simp,
    ((SameOutside.setPair s p w).trans (.setFlags _ g)).trans (.advance _ n)⟩

/-- Settles O35: each writes the pair and no flag. -/
theorem incAndDecPair : Obligations.IncAndDecPair := fun p s =>
  ⟨⟨_, exec_incPair p s, setPair_advance s p _ 1⟩, ⟨_, exec_decPair p s, setPair_advance s p _ 1⟩⟩

/-- The carries out of bits 11 and 15 as comparisons of numbers (R212). -/
theorem addHLResult_eq (a v : Word) (zin : Bool) :
    addHLResult a v zin = (BitVec.ofNat 16 (a.toNat + v.toNat),
      ⟨zin, false, 4095 < a.toNat % 4096 + v.toNat % 4096, 65535 < a.toNat + v.toNat⟩) := by
  simp only [addHLResult, and_0FFF_toNat]

/-- The carries out of bits 3 and 7 of the low byte as comparisons of numbers (R155, R213). -/
theorem spPlusE_eq (sp : Word) (e : Byte) :
    spPlusE sp e = (sp + signExtend8 e,
      ⟨false, false, 15 < sp.toNat % 16 + e.toNat % 16, 255 < sp.toNat % 256 + e.toNat⟩) := by
  simp only [spPlusE, and_0F_toNat, and_FF_toNat, lowNibble_eq]

/-- Settles O36: the sum goes into HL, and its carries into H and C. -/
theorem addToHL : Obligations.AddToHL := by
  intro p s
  have hexec := exec_addHLPair p s
  rw [addHL, addHLResult_eq] at hexec
  exact ⟨_, _, hexec, BitVec.toNat_ofNat .., setPair_setFlags_advance s .hl _ _ 1⟩

theorem toNat_signExtend8 (e : Byte) :
    (signExtend8 e).toNat = if e.toNat < 128 then e.toNat else e.toNat + 0xFF00 := by
  revert e; decide

theorem toInt_byte (e : Byte) : e.toInt = if e.toNat < 128 then (e.toNat : Int) else e.toNat - 256 := by
  rw [BitVec.toInt_eq_toNat_cond]
  split <;> split <;> omega

/-- Adding a sign-extended byte is adding its signed value (R10, R99). -/
theorem toNat_add_signExtend8 (w : Word) (e : Byte) :
    ((w + signExtend8 e).toNat : Int) = (w.toNat + e.toInt) % 65536 := by
  rw [BitVec.toNat_add, toNat_signExtend8, toInt_byte]
  split <;> omega

/-- Settles O25: both compute `spPlusE`, into HL and into SP. -/
theorem stackPointerPlusDisplacement : Obligations.StackPointerPlusDisplacement := by
  intro e s
  have hexec : exec (.ld_hl_spPlusE e) s = loadHLSPPlusE e s ∧ exec (.add_sp_e e) s = addSP e s := ⟨rfl, rfl⟩
  rw [loadHLSPPlusE, addSP, spPlusE_eq] at hexec
  obtain ⟨hpair, hframe⟩ := setPair_setFlags_advance s .hl (s.sp + signExtend8 e) ⟨false, false, _, _⟩ 2
  obtain ⟨hpair', hframe'⟩ := setPair_setFlags_advance s .sp (s.sp + signExtend8 e) ⟨false, false, _, _⟩ 2
  refine ⟨_, _, _, toNat_add_signExtend8 s.sp e, hexec.1, hpair, hexec.2, hpair', ?_⟩
  rintro x (rfl | rfl)
  · exact hframe
  · exact hframe'

end Sys2Proof.Machine

namespace Sys2Proof

open Machine

/-- Settles O23: each writes one pair. -/
theorem loadPair : Obligations.LoadPair :=
  ⟨fun p nn s => ⟨_, exec_ldPairImm p nn s, setPair_advance s p nn 3⟩,
    fun s => ⟨_, rfl, setPair_advance s .sp s.hl 1⟩⟩

end Sys2Proof
end

section
/-!
PROOFS about 8-bit logic, INC, DEC, DAA and the accumulator instructions (42_alu8.md rules R176 to R195), and about
rotates, shifts and bits (44_rotate_shift_bit.md): results and flags as arithmetic on numbers, and the frames.
-/

namespace Sys2Proof.Machine

/-! ### Logic -/

/-- The zero flag as a comparison of numbers. -/
theorem decide_byte_eq_zero (v : Byte) : decide (v = 0) = decide (v.toNat = 0) := by simp only [byte_eq_zero_iff]

/-- Settles O30: an ALU operation that clears N and C, and sets H for AND alone. -/
theorem andXorOr : Obligations.AndXorOr := by
  intro s o i v r len op form
  obtain ⟨result, hcp⟩ : aluResult o s.a v s.flagC = (r, ⟨r.toNat = 0, false, o = .and, false⟩) ∧ o ≠ .cp := by
    rcases op with ⟨rfl, rfl⟩ | ⟨rfl, rfl⟩ | ⟨rfl, rfl⟩ <;>
      exact ⟨by rw [← decide_byte_eq_zero]; rfl, by decide⟩
  obtain ⟨t, hexec, hreg, hflags, hframe⟩ := form.exec_spec result
  rw [if_neg hcp] at hreg
  exact ⟨t, hexec, hreg, hflags, hframe⟩

/-! ### An operand read, changed and written back -/

/-- The operand written with flags, and then pc: the frame of INC, DEC and the shifts. -/
theorem writeOperand_setFlags_advance {s : State} {x : Operand8} (h : x = .atHL → Mapped s.hl) (r : Byte) (g : Flags)
    (n : Nat) :
    ∃ t, s.writeOperand x r = .ok t ∧ OperandWritten s ((t.setFlags g).advance n) x r ∧
      FlagsAre ((t.setFlags g).advance n) g.z g.n g.h g.c ∧ ((t.setFlags g).advance n).sp = s.sp ∧
      ((t.setFlags g).advance n).pc = s.pc + BitVec.ofNat 16 n ∧ SameOutside s ((t.setFlags g).advance n) := by
  obtain ⟨t, hwrite, hoperand, -, hsp, hpc, hout⟩ := State.writeOperand_ok s x r h
  exact ⟨t, hwrite, hoperand.congr (fun r => by simp) rfl, flagsAre_of rfl, hsp, congrArg (· + BitVec.ofNat 16 n) hpc,
    (hout.trans (.setFlags t g)).trans (.advance _ n)⟩

theorem incResult_eq (v : Byte) (cin : Bool) :
    incResult v cin = (v + 1, ⟨(v + 1).toNat = 0, false, v.toNat % 16 = 15, cin⟩) := by
  simp only [incResult, byte_eq_zero_iff, lowNibble_eq]

theorem decResult_eq (v : Byte) (cin : Bool) :
    decResult v cin = (v - 1, ⟨(v - 1).toNat = 0, true, v.toNat % 16 = 0, cin⟩) := by
  simp only [decResult, byte_eq_zero_iff, lowNibble_eq]

/-- Settles O31: the operand read, the result written back with its flags, and then pc. -/
theorem incAndDec : Obligations.IncAndDec := by
  intro s x v hx
  constructor
  · obtain ⟨t, hwrite, hframe⟩ := writeOperand_setFlags_advance hx.mapped (v + 1)
      ⟨(v + 1).toNat = 0, false, v.toNat % 16 = 15, s.flagC⟩ 1
    refine ⟨_, v + 1, ?_, by bv_omega, hframe⟩
    rw [exec_inc8, incOperand, State.readOperand_ok hx, except_bind_ok, incResult_eq]
    dsimp only
    rw [hwrite]
    rfl
  · obtain ⟨t, hwrite, hframe⟩ := writeOperand_setFlags_advance hx.mapped (v - 1)
      ⟨(v - 1).toNat = 0, true, v.toNat % 16 = 0, s.flagC⟩ 1
    refine ⟨_, v - 1, ?_, by bv_omega, hframe⟩
    rw [exec_dec8, decOperand, State.readOperand_ok hx, except_bind_ok, decResult_eq]
    dsimp only
    rw [hwrite]
    rfl

/-! ### A and the flags -/

/-- A and the flags written, and then pc: the frame of the accumulator instructions. -/
theorem setA_setFlags_advance (s : State) (r : Byte) (g : Flags) (n : Nat) :
    let t := ((s.setReg .a r).setFlags g).advance n
    OnlyReg s t .a r ∧ FlagsAre t g.z g.n g.h g.c ∧ t.sp = s.sp ∧ t.pc = s.pc + BitVec.ofNat 16 n ∧
      SameMemory s t ∧ SameOutside s t :=
  ⟨fun x => by simp, flagsAre_of rfl, by simp, by simp, fun x => by simp,
    ((SameOutside.setReg s .a r).trans (.setFlags _ g)).trans (.advance _ n)⟩

/-- The flags written, and then pc. -/
theorem setFlags_advance (s : State) (g : Flags) (n : Nat) :
    let t := (s.setFlags g).advance n
    SameRegs s t ∧ FlagsAre t g.z g.n g.h g.c ∧ t.sp = s.sp ∧ t.pc = s.pc + BitVec.ofNat 16 n ∧ SameMemory s t ∧
      SameOutside s t :=
  ⟨fun x => by simp, flagsAre_of rfl, by simp, by simp, fun x => by simp,
    (SameOutside.setFlags s g).trans (.advance _ n)⟩

/-- The result and the carry of DAA in numbers, `six` and `sixty` saying which adjustments are made (R192). -/
theorem daaResult_eq (a : Byte) (g : Flags) {six sixty : Bool}
    (h6 : six = (g.h || (!g.n && decide (9 < a.toNat % 16)))) (h60 : sixty = (g.c || (!g.n && decide (0x99 < a.toNat)))) :
    ∃ r : Byte, r.toNat = (if g.n then a.toNat + 256 - (6 * six.toNat + 0x60 * sixty.toNat)
        else a.toNat + (6 * six.toNat + 0x60 * sixty.toNat)) % 256 ∧
      daaResult a g = (r, ⟨r.toNat = 0, g.n, false, sixty⟩) := by
  have hadjust (x y : Bool) :
      ((if x then (0x06 : Byte) else 0x00) + (if y then 0x60 else 0x00)).toNat = 6 * x.toNat + 0x60 * y.toNat := by
    cases x <;> cases y <;> rfl
  have hsix := six.toNat_le
  have hsixty := sixty.toNat_le
  obtain ⟨z, n, h, c⟩ := g
  cases n
  · refine ⟨a + ((if six then (0x06 : Byte) else 0x00) + (if sixty then 0x60 else 0x00)), ?_, ?_⟩
    · rw [BitVec.toNat_add, hadjust]; rfl
    · rw [← decide_byte_eq_zero, h6, h60]
      simp [daaResult, lowNibble_eq]
  · refine ⟨a - ((if six then (0x06 : Byte) else 0x00) + (if sixty then 0x60 else 0x00)), ?_, ?_⟩
    · rw [BitVec.toNat_sub, hadjust]
      simp
      omega
    · rw [← decide_byte_eq_zero, h6, h60]
      simp [daaResult]

/-- Settles O34: CPL complements A, and the three write the flags. -/
theorem cplScfCcf : Obligations.CplScfCcf := by
  intro s
  have hcpl : (s.a ^^^ 0xFF).toNat = 255 - s.a.toNat := by
    generalize s.a = a
    revert a; decide
  exact ⟨⟨_, rfl, hcpl, setA_setFlags_advance s (s.a ^^^ 0xFF) ⟨s.flagZ, true, true, s.flagC⟩ 1⟩,
    ⟨_, rfl, setFlags_advance s ⟨s.flagZ, false, false, true⟩ 1⟩,
    ⟨_, rfl, setFlags_advance s ⟨s.flagZ, false, false, !s.flagC⟩ 1⟩⟩

/-! ### Rotates and shifts -/

/-- The result of a rotate or shift and the bit it shifts out, as arithmetic (R225 to R232). -/
def shiftNumbers (o : ShiftOp) (v : Byte) (cin : Bool) : Nat × Bool :=
  match o with
  | .rlc => (2 * v.toNat % 256 + v.toNat / 128, decide (128 ≤ v.toNat))
  | .rrc => (v.toNat / 2 + 128 * (v.toNat % 2), decide (v.toNat % 2 = 1))
  | .rl => (2 * v.toNat % 256 + cin.toNat, decide (128 ≤ v.toNat))
  | .rr => (v.toNat / 2 + 128 * cin.toNat, decide (v.toNat % 2 = 1))
  | .sla => (2 * v.toNat % 256, decide (128 ≤ v.toNat))
  | .sra => (v.toNat / 2 + 128 * (v.toNat / 128), decide (v.toNat % 2 = 1))
  | .swap => (16 * (v.toNat % 16) + v.toNat / 16, false)
  | .srl => (v.toNat / 2, decide (v.toNat % 2 = 1))

theorem shiftResult_toNat (o : ShiftOp) (v : Byte) (cin : Bool) :
    ((shiftResult o v cin).1.toNat, (shiftResult o v cin).2) = shiftNumbers o v cin := by
  revert v
  cases o <;> cases cin <;> decide

/-- Settles O37: each is the shift of the same name on A, with Z clear. -/
theorem accumulatorRotates : Obligations.AccumulatorRotates := by
  intro s i r out h
  obtain ⟨o, hi, hnumbers⟩ : ∃ o, exec i s = rotateA o s ∧ shiftNumbers o s.a s.flagC = (r, out) := by
    rcases h with ⟨rfl, rfl, rfl⟩ | ⟨rfl, rfl, rfl⟩ | ⟨rfl, rfl, rfl⟩ | ⟨rfl, rfl, rfl⟩
    · exact ⟨.rlc, rfl, rfl⟩
    · exact ⟨.rrc, rfl, rfl⟩
    · exact ⟨.rl, rfl, rfl⟩
    · exact ⟨.rr, rfl, rfl⟩
  obtain ⟨hr, rfl⟩ := Prod.mk.inj ((shiftResult_toNat o s.a s.flagC).trans hnumbers)
  exact ⟨_, hi, hr, setA_setFlags_advance s (shiftResult o s.a s.flagC).1
    (accRotateFlags (shiftResult o s.a s.flagC).2) 1⟩

theorem shiftOperand_eq {s : State} {x : Operand8} {v w : Byte} {o : ShiftOp} {out : Bool} (h : OperandIs s x v)
    (hshift : shiftResult o v s.flagC = (w, out)) :
    shiftOperand o x s = outcome (s.writeOperand x w >>= fun t =>
      pure ((t.setFlags (shiftFlags w out)).advance 2)) := by
  rw [shiftOperand, State.readOperand_ok h, except_bind_ok, hshift]

/-- Settles O38: the operand read, the shifted value written back with its flags, and then pc. -/
theorem rotatesAndShifts : Obligations.RotatesAndShifts := by
  intro s o x v r out hx hform
  have hnumbers : (r, out) = shiftNumbers o v s.flagC := hform
  rw [← shiftResult_toNat] at hnumbers
  obtain ⟨w, out', hshift⟩ : ∃ w out', shiftResult o v s.flagC = (w, out') := ⟨_, _, rfl⟩
  rw [hshift] at hnumbers
  obtain ⟨rfl, rfl⟩ := Prod.mk.inj hnumbers
  obtain ⟨t, hwrite, hframe⟩ := writeOperand_setFlags_advance hx.mapped w (shiftFlags w out) 2
  refine ⟨(t.setFlags (shiftFlags w out)).advance 2, w, ?exec, rfl, ?frame⟩
  case exec => rw [exec_shift, shiftOperand_eq hx hshift, hwrite]; rfl
  case frame =>
    rw [← decide_byte_eq_zero]
    exact hframe

/-! ### Bits -/

theorem getLsbD_one_shiftLeft (k : Fin 8) {j : Nat} (hj : j < 8) :
    ((1 : Byte) <<< k.val).getLsbD j = decide (j = k.val) := by
  revert k j; decide

theorem getLsbD_resBit (v : Byte) (k : Fin 8) {j : Nat} (hj : j < 8) :
    (resBit v k).getLsbD j = (v.getLsbD j && decide (j ≠ k.val)) := by
  rw [resBit, BitVec.getLsbD_and, BitVec.getLsbD_not, getLsbD_one_shiftLeft k hj]
  simp [hj]

theorem getLsbD_setBit (v : Byte) (k : Fin 8) {j : Nat} (hj : j < 8) :
    (setBit v k).getLsbD j = (v.getLsbD j || decide (j = k.val)) := by
  rw [setBit, BitVec.getLsbD_or, getLsbD_one_shiftLeft k hj]

/-- An operand written, and then pc: the frame of RES and SET. -/
theorem writeOperand_advance {s : State} {x : Operand8} (h : x = .atHL → Mapped s.hl) (r : Byte) (n : Nat) :
    ∃ t, s.writeOperand x r = .ok t ∧ OperandWritten s (t.advance n) x r ∧ (t.advance n).f = s.f ∧
      (t.advance n).sp = s.sp ∧ (t.advance n).pc = s.pc + BitVec.ofNat 16 n ∧ SameOutside s (t.advance n) := by
  obtain ⟨t, hwrite, hoperand, hf, hsp, hpc, hout⟩ := State.writeOperand_ok s x r h
  exact ⟨t, hwrite, hoperand.congr (fun r => by simp) rfl, hf, hsp, congrArg (· + BitVec.ofNat 16 n) hpc,
    hout.trans (.advance t n)⟩

/-- Settles O39: BIT reads the operand, RES and SET write it back with one bit changed. -/
theorem bitResAndSet : Obligations.BitResAndSet := by
  intro s k x v hx
  refine ⟨?bit, ?res, ?set⟩
  case bit =>
    obtain ⟨hregs, hflags, hsp, hpc, hmem, hout⟩ := setFlags_advance s (bitFlags k v s.flagC) 2
    refine ⟨_, ?_, hregs, hmem, hflags, hsp, hpc, hout⟩
    rw [exec_bit8, testBit, State.readOperand_ok hx]
    rfl
  case res =>
    obtain ⟨t, hwrite, hframe⟩ := writeOperand_advance hx.mapped (resBit v k) 2
    refine ⟨_, _, ?_, fun j hj => getLsbD_resBit v k hj, hframe⟩
    rw [exec_res8, clearBitOf, State.readOperand_ok hx, except_bind_ok, hwrite]
    rfl
  case set =>
    obtain ⟨t, hwrite, hframe⟩ := writeOperand_advance hx.mapped (setBit v k) 2
    refine ⟨_, _, ?_, fun j hj => getLsbD_setBit v k hj, hframe⟩
    rw [exec_set8, setBitOf, State.readOperand_ok hx, except_bind_ok, hwrite]
    rfl

end Sys2Proof.Machine

namespace Sys2Proof

open Machine

/-- Settles O32: DAA is `daaResult` on A and the flags. -/
theorem decimalAdjust : Obligations.DecimalAdjust := by
  intro s six sixty h6 h60
  obtain ⟨r, hr, hdaa⟩ := daaResult_eq s.a ⟨s.flagZ, s.flagN, s.flagH, s.flagC⟩ h6 h60
  have hexec : exec .daa s = Machine.decimalAdjust s := rfl
  rw [Machine.decimalAdjust, hdaa] at hexec
  exact ⟨_, hexec, hr, setA_setFlags_advance s r _ 1⟩

/-- The digits of a number of two decimal digits. -/
theorem exists_digits {x : Nat} (h : x < 100) :
    ∃ x1 x0, x = 10 * x1 + x0 ∧ x1 < 10 ∧ x0 < 10 ∧ x / 10 = x1 ∧ x % 10 = x0 :=
  ⟨x / 10, x % 10, by omega, by omega, by omega, rfl, rfl⟩

/-- Where the low digits carry, the sum in hexadecimal form carries out of its low digit or shows one above 9. -/
theorem low_adjust_iff {x1 x0 y1 y0 : Nat} (hx : x0 < 10) (hy : y0 < 10) :
    (15 < (16 * x1 + x0) % 16 + (16 * y1 + y0) % 16 ∨ 9 < (16 * x1 + x0 + (16 * y1 + y0)) % 256 % 16) ↔
      10 ≤ x0 + y0 := by omega

/-- Where the sum passes 99, its hexadecimal form passes 0x99. -/
theorem high_adjust_iff {x1 x0 y1 y0 : Nat} (hx1 : x1 < 10) (hx : x0 < 10) (hy1 : y1 < 10) (hy : y0 < 10) :
    (255 < 16 * x1 + x0 + (16 * y1 + y0) ∨ 153 < (16 * x1 + x0 + (16 * y1 + y0)) % 256) ↔
      99 < 10 * x1 + x0 + (10 * y1 + y0) := by omega

/-- The two decimal digits of a number below 200, in hexadecimal form. -/
theorem bcd_of_digits {n z1 z0 : Nat} (h1 : z1 < 10) (h0 : z0 < 10) (h : n = 10 * z1 + z0 ∨ n = 100 + (10 * z1 + z0)) :
    16 * (n % 100 / 10) + n % 10 = 16 * z1 + z0 := by
  obtain ⟨htens, hones⟩ : n % 100 / 10 = z1 ∧ n % 10 = z0 := by omega
  rw [htens, hones]

/-- The decimal sum from the hexadecimal one: 6 is added for each digit that carried. -/
theorem bcd_add {x1 x0 y1 y0 : Nat} (hx1 : x1 < 10) (hx0 : x0 < 10) (hy1 : y1 < 10) (hy0 : y0 < 10) :
    ((16 * x1 + x0 + (16 * y1 + y0)) % 256 + ((6 * if 10 ≤ x0 + y0 then 1 else 0) +
        96 * if 99 < 10 * x1 + x0 + (10 * y1 + y0) then 1 else 0)) % 256 =
      16 * ((10 * x1 + x0 + (10 * y1 + y0)) % 100 / 10) + (10 * x1 + x0 + (10 * y1 + y0)) % 10 := by
  split_ifs with hlow hhigh hhigh
  · rw [bcd_of_digits (z1 := x1 + y1 - 9) (z0 := x0 + y0 - 10) (by omega) (by omega) (by omega)]; omega
  · rw [bcd_of_digits (z1 := x1 + y1 + 1) (z0 := x0 + y0 - 10) (by omega) (by omega) (by omega)]; omega
  · rw [bcd_of_digits (z1 := x1 + y1 - 10) (z0 := x0 + y0) (by omega) (by omega) (by omega)]; omega
  · rw [bcd_of_digits (z1 := x1 + y1) (z0 := x0 + y0) (by omega) (by omega) (by omega)]; omega

/-- The decimal difference from the hexadecimal one: 6 is subtracted for each digit that borrowed. -/
theorem bcd_sub {x1 x0 y1 y0 r : Nat} (hx1 : x1 < 10) (hx0 : x0 < 10) (hy1 : y1 < 10) (hy0 : y0 < 10)
    (hr : (r : Int) = (((16 * x1 + x0 : Nat) : Int) - ((16 * y1 + y0 : Nat) : Int)) % 256) :
    (r + 256 - ((6 * if x0 < y0 then 1 else 0) + 96 * if 10 * x1 + x0 < 10 * y1 + y0 then 1 else 0)) % 256 =
      16 * ((10 * x1 + x0 + 100 - (10 * y1 + y0)) % 100 / 10) + (10 * x1 + x0 + 100 - (10 * y1 + y0)) % 10 := by
  split_ifs with hlow hhigh hhigh
  · rw [bcd_of_digits (z1 := x1 + 9 - y1) (z0 := x0 + 10 - y0) (by omega) (by omega) (by omega)]; omega
  · rw [bcd_of_digits (z1 := x1 - y1 - 1) (z0 := x0 + 10 - y0) (by omega) (by omega) (by omega)]; omega
  · rw [bcd_of_digits (z1 := x1 + 10 - y1) (z0 := x0 - y0) (by omega) (by omega) (by omega)]; omega
  · rw [bcd_of_digits (z1 := x1 - y1) (z0 := x0 - y0) (by omega) (by omega) (by omega)]; omega

/-- Where the low digits borrow, so do the low digits in hexadecimal form. -/
theorem low_borrow_iff {x1 x0 y1 y0 : Nat} (hx : x0 < 10) (hy : y0 < 10) :
    (16 * x1 + x0) % 16 < (16 * y1 + y0) % 16 ↔ x0 < y0 := by omega

/-- The hexadecimal form keeps the order. -/
theorem high_borrow_iff {x1 x0 y1 y0 : Nat} (hx : x0 < 10) (hy : y0 < 10) :
    16 * x1 + x0 < 16 * y1 + y0 ↔ 10 * x1 + x0 < 10 * y1 + y0 := by omega

/-- Settles O33: the sum or difference of two numbers of two digits in hexadecimal form is off by 6 for each digit that
carried or borrowed, which is what DAA adds or subtracts. -/
theorem decimalAdjustCorrectsBcd : Obligations.DecimalAdjustCorrectsBcd := by
  intro s x y n hx hy ha hn
  obtain ⟨x1, x0, rfl, hx1, hx0, hdiv, hmod⟩ := exists_digits hx
  obtain ⟨y1, y0, rfl, hy1, hy0, hdiv', hmod'⟩ := exists_digits hy
  rw [hdiv, hmod] at ha
  rw [hdiv', hmod'] at hn
  constructor
  · obtain ⟨t, hadd, hta, -, hflags, -⟩ := addAndAdc s .add (.aluImm .add n) n 2 0 (.inl ⟨rfl, rfl⟩) (.immediate n)
    obtain ⟨u, hdaa, hua, -, huflags, -⟩ := decimalAdjust t _ _ rfl rfl
    rw [hflags.h, hflags.n, hflags.c, hta, ha, hn] at hua
    have huc := huflags.c
    rw [hflags.n, hflags.c, hta, ha, hn] at huc
    simp only [Bool.false_eq_true, if_false, Bool.not_false, Bool.true_and, ← Bool.decide_or, Bool.toNat,
      Bool.cond_decide, Nat.add_zero, low_adjust_iff hx0 hy0, high_adjust_iff hx1 hx0 hy1 hy0] at hua huc
    exact ⟨t, u, hadd, hdaa, hua.trans (bcd_add hx1 hx0 hy1 hy0), huc⟩
  · obtain ⟨t, r, hsub, hr, hreg, hflags, -⟩ :=
      subSbcAndCp s .sub (.aluImm .sub n) n 2 0 (.inl ⟨rfl, rfl⟩) (.immediate n)
    obtain ⟨u, hdaa, hua, -, huflags, -⟩ := decimalAdjust t _ _ rfl rfl
    have hta : t.a = r := hreg .a
    rw [hflags.h, hflags.n, hflags.c, hta, ha, hn] at hua
    have huc := huflags.c
    rw [hflags.n, hflags.c, ha, hn] at huc
    rw [ha, hn, Nat.cast_zero, Int.sub_zero] at hr
    simp only [if_true, Bool.not_true, Bool.false_and, Bool.or_false, Bool.toNat, Bool.cond_decide, Nat.add_zero,
      low_borrow_iff hx0 hy0, high_borrow_iff hx0 hy0] at hua huc
    exact ⟨t, u, hsub, hdaa, hua.trans (bcd_sub hx1 hx0 hy1 hy0 hr), huc⟩

end Sys2Proof
end

section
/-!
PROOFS about control transfer and the system instructions (45_control.md rules R250 to R261, 46_system.md rules R280 to
R284), which instructions write F (10_state.md rule R28), and the faults of data accesses (60_exceptions.md rules R354,
R371, R373).
-/

namespace Sys2Proof.Machine

/-! ### Jumps -/

/-- The target of a relative jump: the signed displacement counts from the address after the instruction (R254). -/
theorem toNat_relative (pc : Word) (e : Byte) :
    ((pc + 2 + signExtend8 e).toNat : Int) = (pc.toNat + 2 + e.toInt) % 65536 := by
  rw [toNat_add_signExtend8, BitVec.toNat_add]
  have h2 : (2 : Word).toNat = 2 := rfl
  omega

section
variable {s : State} {cc : Cond}

theorem jumpIf_taken (h : CondHolds s cc) (nn : Word) : jumpIf cc nn s = .next (s.jump nn) := by
  rw [jumpIf, if_pos ((cond_iff s cc).2 h)]

theorem jumpIf_not_taken (h : ¬CondHolds s cc) (nn : Word) : jumpIf cc nn s = .next (s.advance 3) := by
  rw [jumpIf, if_neg (mt (cond_iff s cc).1 h)]

theorem jumpRelativeIf_taken (h : CondHolds s cc) (e : Byte) :
    jumpRelativeIf cc e s = .next (s.jump (s.pc + 2 + signExtend8 e)) := by
  rw [jumpRelativeIf, if_pos ((cond_iff s cc).2 h)]

theorem jumpRelativeIf_not_taken (h : ¬CondHolds s cc) (e : Byte) : jumpRelativeIf cc e s = .next (s.advance 2) := by
  rw [jumpRelativeIf, if_neg (mt (cond_iff s cc).1 h)]

theorem callIf_taken (h : CondHolds s cc) (nn : Word) : callIf cc nn s = call nn s := by
  rw [callIf, if_pos ((cond_iff s cc).2 h)]

theorem callIf_not_taken (h : ¬CondHolds s cc) (nn : Word) : callIf cc nn s = .next (s.advance 3) := by
  rw [callIf, if_neg (mt (cond_iff s cc).1 h)]

theorem returnIf_taken (h : CondHolds s cc) : returnIf cc s = returnFrom s := by
  rw [returnIf, if_pos ((cond_iff s cc).2 h)]

theorem returnIf_not_taken (h : ¬CondHolds s cc) : returnIf cc s = .next (s.advance 1) := by
  rw [returnIf, if_neg (mt (cond_iff s cc).1 h)]

end

/-- Settles O40: each jump is one write of pc, the conditional ones by their condition. -/
theorem jumps : Obligations.Jumps := fun s cc nn e =>
  ⟨rfl, fun h => (exec_jpCond cc nn s).trans (jumpIf_taken h nn),
    fun h => (exec_jpCond cc nn s).trans (jumpIf_not_taken h nn),
    rfl, ⟨_, toNat_relative s.pc e, rfl, fun h => (exec_jrCond cc e s).trans (jumpRelativeIf_taken h e)⟩,
    fun h => (exec_jrCond cc e s).trans (jumpRelativeIf_not_taken h e)⟩

/-! ### Calls and returns -/

/-- A push of the return address, and then the jump: what the calls and restarts share (R256, R261). -/
theorem push_jump {s : State} (h : Mapped (s.sp - 1)) (h' : Mapped (s.sp - 2)) (ret target : Word) :
    ∃ t, (outcome do
        let s' ← s.push16 ret
        return s'.jump target) = .next t ∧
      t = { s with pc := target, sp := s.sp - 2, mem := t.mem } ∧ StoredWord s t (s.sp - 2) ret := by
  obtain ⟨t, hpush, hframe, hstored⟩ := State.push16_ok h h' ret
  refine ⟨t.jump target, ?_, ?_, hstored.congr rfl⟩
  · rw [hpush]; rfl
  · rw [hframe]; rfl

/-- Settles O41: a call is a push of the return address and a jump. -/
theorem calls : Obligations.Calls := by
  intro s cc nn k
  refine ⟨fun h h' => ⟨push_jump h h' _ nn, fun hcc => ?_, ?_⟩, fun hcc => ?_⟩
  · rw [exec_callCond, callIf_taken hcc]
    exact push_jump h h' _ nn
  · rw [exec_rst]
    exact push_jump h h' _ _
  · rw [exec_callCond]
    exact callIf_not_taken hcc nn

theorem returnFrom_ok {s : State} (h : Mapped s.sp) (h' : Mapped (s.sp + 1)) :
    returnFrom s = .next { s with pc := joinBytes (s.peek (s.sp + 1)) (s.peek s.sp), sp := s.sp + 2 } := by
  rw [returnFrom, State.pop16_ok h h']
  rfl

/-- Settles O42: a return is a pop into pc. -/
theorem returns : Obligations.Returns := by
  intro s cc
  refine ⟨fun h h' => ⟨_, joinBytes_toNat _ _, returnFrom_ok h h', returnFrom_ok h h', fun hcc => ?_⟩, fun hcc => ?_⟩
  · rw [exec_retCond, returnIf_taken hcc]
    exact returnFrom_ok h h'
  · rw [exec_retCond]
    exact returnIf_not_taken hcc

/-! ### System instructions -/

/-- Settles O43: each is evaluated. -/
theorem systemInstructions : Obligations.SystemInstructions := fun _ => ⟨rfl, rfl, rfl, rfl, rfl, rfl⟩

/-! ### Writers of F -/

/-- Where the instruction answers a next state, F is as it was. -/
def KeepsF (s : State) : Result → Prop
  | .next t => t.f = s.f
  | _ => True

theorem KeepsF.read {s : State} {a : Word} {f : Byte → Except Fault State} (h : ∀ v, KeepsF s (outcome (f v))) :
    KeepsF s (outcome (s.readByte a >>= f)) := by
  rcases State.readByte_cases s a with ⟨_, he⟩ | ⟨_, he⟩ <;> rw [he]
  · exact h _
  · trivial

theorem KeepsF.write {s t : State} (ht : t.f = s.f) {a : Word} {v : Byte} {f : State → Except Fault State}
    (h : ∀ u, u.f = s.f → KeepsF s (outcome (f u))) : KeepsF s (outcome (t.writeByte a v >>= f)) := by
  rcases State.writeByte_cases t a v with ⟨_, he⟩ | ⟨_, he⟩ <;> rw [he]
  · exact h _ ((State.poke_f t a v).trans ht)
  · trivial

theorem KeepsF.readOperand {s : State} {x : Operand8} {f : Byte → Except Fault State}
    (h : ∀ v, KeepsF s (outcome (f v))) : KeepsF s (outcome (s.readOperand x >>= f)) := by
  cases x with
  | reg r => exact h _
  | atHL => exact .read h

theorem KeepsF.writeOperand {s : State} {x : Operand8} {v : Byte} {f : State → Except Fault State}
    (h : ∀ u, u.f = s.f → KeepsF s (outcome (f u))) : KeepsF s (outcome (s.writeOperand x v >>= f)) := by
  cases x with
  | reg r => exact h _ (State.setReg_f s r v)
  | atHL => exact .write rfl h

theorem KeepsF.push {s : State} {w : Word} {f : State → Except Fault State}
    (h : ∀ u, u.f = s.f → KeepsF s (outcome (f u))) : KeepsF s (outcome (s.push16 w >>= f)) := by
  unfold State.push16
  simp only [bind_assoc]
  exact .write (t := { s with sp := s.sp - 1 }) rfl fun u hu => .write (t := { u with sp := u.sp - 1 }) hu h

theorem KeepsF.pop {s : State} {f : Word × State → Except Fault State}
    (h : ∀ w u, u.f = s.f → KeepsF s (outcome (f (w, u)))) : KeepsF s (outcome (s.pop16 >>= f)) := by
  by_cases hlow : Mapped s.sp
  · by_cases hhigh : Mapped (s.sp + 1)
    · rw [State.pop16_ok hlow hhigh]; exact h _ _ rfl
    · rw [State.pop16_high_unmapped hlow hhigh]; trivial
  · rw [State.pop16_low_unmapped hlow]; trivial

theorem call_keepsF (nn : Word) (s : State) : KeepsF s (call nn s) := .push fun _ hu => hu

theorem returnFrom_keepsF (s : State) : KeepsF s (returnFrom s) := .pop fun _ _ hu => hu

/-- The writers of flags R28 lists. -/
def WritesFlags (i : Instr) : Prop :=
  (∃ o x, i = .alu o x) ∨ (∃ o n, i = .aluImm o n) ∨ (∃ x, i = .inc8 x) ∨ (∃ x, i = .dec8 x) ∨
    i = .daa ∨ i = .cpl ∨ i = .scf ∨ i = .ccf ∨ (∃ p, i = .addHLPair p) ∨ (∃ e, i = .add_sp_e e) ∨
    (∃ e, i = .ld_hl_spPlusE e) ∨ i = .pop_af ∨ i = .rlca ∨ i = .rrca ∨ i = .rla ∨ i = .rra ∨
    (∃ o x, i = .shift o x) ∨ ∃ k x, i = .bit8 k x

/-- An instruction that is no writer of flags keeps F. -/
theorem writesFlags_or_keepsF (i : Instr) (s : State) : WritesFlags i ∨ KeepsF s (exec i s) := by
  induction i using instr_families with
  | h_alu o x => exact .inl (.inl ⟨o, x, rfl⟩)
  | h_aluImm o n => exact .inl (.inr (.inl ⟨o, n, rfl⟩))
  | h_inc8 x => exact .inl (.inr (.inr (.inl ⟨x, rfl⟩)))
  | h_dec8 x => exact .inl (.inr (.inr (.inr (.inl ⟨x, rfl⟩))))
  | h_addHLPair p => exact .inl (by simp [WritesFlags])
  | h_add_sp_e e => exact .inl (by simp [WritesFlags])
  | h_ld_hl_spPlusE e => exact .inl (by simp [WritesFlags])
  | h_shift o x => exact .inl (by simp [WritesFlags])
  | h_bit8 k x => exact .inl (by simp [WritesFlags])
  | h_daa | h_cpl | h_scf | h_ccf | h_rlca | h_rrca | h_rla | h_rra => exact .inl (by simp [WritesFlags])
  | h_stopOf len => rw [exec_stopOf]; exact .inr rfl
  | h_ldRegReg dst src => rw [exec_ldRegReg]; exact .inr (State.setReg_f s _ _)
  | h_ldRegHL dst => rw [exec_ldRegHL]; exact .inr (.read fun v => State.setReg_f s dst v)
  | h_ldHLReg src => rw [exec_ldHLReg]; exact .inr (.write rfl fun _ hu => hu)
  | h_ldImm x n => rw [exec_ldImm]; exact .inr (.writeOperand fun _ hu => hu)
  | h_ldAccFrom m => rw [exec_ldAccFrom]; exact .inr (.read fun v => State.accAfter_f _ m)
  | h_ldAccTo m => rw [exec_ldAccTo]; exact .inr (.write rfl fun u hu => (State.accAfter_f u m).trans hu)
  | h_ldPairImm p nn => rw [exec_ldPairImm]; exact .inr (State.setPair_f s p nn)
  | h_push q => rw [exec_push]; exact .inr (.push fun _ hu => hu)
  | h_pop q =>
    cases q with
    | af => exact .inl (by simp [WritesFlags, Instr.pop])
    | bc | de | hl => exact .inr (.pop fun _ _ hu => hu)
  | h_incPair p => rw [exec_incPair]; exact .inr (State.setPair_f s p _)
  | h_decPair p => rw [exec_decPair]; exact .inr (State.setPair_f s p _)
  | h_res8 k x => rw [exec_res8]; exact .inr (.readOperand fun _ => .writeOperand fun _ hu => hu)
  | h_set8 k x => rw [exec_set8]; exact .inr (.readOperand fun _ => .writeOperand fun _ hu => hu)
  | h_jpCond cc nn => rw [exec_jpCond, jumpIf]; split <;> exact .inr rfl
  | h_jrCond cc e => rw [exec_jrCond, jumpRelativeIf]; split <;> exact .inr rfl
  | h_callCond cc nn =>
    rw [exec_callCond, callIf]
    split
    · exact .inr (call_keepsF nn s)
    · exact .inr rfl
  | h_retCond cc =>
    rw [exec_retCond, returnIf]
    split
    · exact .inr (returnFrom_keepsF s)
    · exact .inr rfl
  | h_rst k => rw [exec_rst]; exact .inr (.push fun _ hu => hu)
  | h_ld_atNn_sp nn =>
    refine .inr (show KeepsF s (outcome (s.writeWord nn s.sp >>= fun u => pure (u.advance 3))) from ?_)
    unfold State.writeWord
    simp only [bind_assoc]
    exact .write rfl fun u hu => .write hu fun _ hu' => hu'
  | h_call_nn nn => exact .inr (call_keepsF nn s)
  | h_ret | h_reti => exact .inr (returnFrom_keepsF s)
  | h_illegal op => exact .inr trivial
  | _ => exact .inr rfl

/-- Settles O14: an instruction that is no writer of flags keeps F. -/
theorem flagWriters : Obligations.FlagWriters := by
  intro i s t hexec hf
  rcases writesFlags_or_keepsF i s with h | h
  · exact h
  · rw [hexec] at h
    exact absurd h hf

/-! ### Faults of data accesses -/

section
variable {s : State} {a : Word}

theorem outcome_read_unmapped (h : ¬Mapped a) (f : Byte → Except Fault State) :
    outcome (s.readByte a >>= f) = .fault (.unmappedAddress a s) := by
  rw [State.readByte_unmapped h]; rfl

theorem outcome_write_unmapped (h : ¬Mapped a) (v : Byte) (f : State → Except Fault State) :
    outcome (s.writeByte a v >>= f) = .fault (.unmappedAddress a s) := by
  rw [State.writeByte_unmapped h]; rfl

/-- Every instruction whose first data access is at HL faults there (R354, R373). -/
theorem exec_hl_unmapped (h : ¬Mapped s.hl) {i : Instr}
    (hi : (∃ r, i = .ldRegHL r) ∨ (∃ r, i = .ldHLReg r) ∨ (∃ n, i = .ldImm .atHL n) ∨ (∃ o, i = .alu o .atHL) ∨
      i = .inc8 .atHL ∨ i = .dec8 .atHL ∨ (∃ o, i = .shift o .atHL) ∨ (∃ k, i = .bit8 k .atHL) ∨
      (∃ k, i = .res8 k .atHL) ∨ (∃ k, i = .set8 k .atHL) ∨ (∃ m, (m = .hlInc ∨ m = .hlDec) ∧
        (i = .ldAccFrom m ∨ i = .ldAccTo m))) :
    exec i s = .fault (.unmappedAddress s.hl s) := by
  rcases hi with ⟨r, rfl⟩ | ⟨r, rfl⟩ | ⟨n, rfl⟩ | ⟨o, rfl⟩ | rfl | rfl | ⟨o, rfl⟩ | ⟨k, rfl⟩ | ⟨k, rfl⟩ | ⟨k, rfl⟩ |
    ⟨m, hm, hi⟩
  · exact (exec_ldRegHL r s).trans (outcome_read_unmapped h _)
  · exact (exec_ldHLReg r s).trans (outcome_write_unmapped h _ _)
  · exact (exec_ldImm .atHL n s).trans (outcome_write_unmapped h _ _)
  · exact (exec_alu o .atHL s).trans (outcome_read_unmapped h _)
  · exact (exec_inc8 .atHL s).trans (outcome_read_unmapped h _)
  · exact (exec_dec8 .atHL s).trans (outcome_read_unmapped h _)
  · exact (exec_shift o .atHL s).trans (outcome_read_unmapped h _)
  · exact (exec_bit8 k .atHL s).trans (outcome_read_unmapped h _)
  · exact (exec_res8 k .atHL s).trans (outcome_read_unmapped h _)
  · exact (exec_set8 k .atHL s).trans (outcome_read_unmapped h _)
  · have ha : s.accAddress m = s.hl := by rcases hm with rfl | rfl <;> rfl
    rcases hi with rfl | rfl
    · rw [exec_ldAccFrom, loadAcc, ha]; exact outcome_read_unmapped h _
    · rw [exec_ldAccTo, storeAcc, ha]; exact outcome_write_unmapped h _ _

/-- An accumulator load or store faults at its address (R354, R373). -/
theorem exec_acc_unmapped {m : AccAddr} (h : ¬Mapped (s.accAddress m)) :
    exec (.ldAccFrom m) s = .fault (.unmappedAddress (s.accAddress m) s) ∧
      exec (.ldAccTo m) s = .fault (.unmappedAddress (s.accAddress m) s) :=
  ⟨(exec_ldAccFrom m s).trans (outcome_read_unmapped h _), (exec_ldAccTo m s).trans (outcome_write_unmapped h _ _)⟩

/-- An instruction that pushes first faults where its push does (R354, D20). -/
theorem outcome_push_unmapped (w : Word) (f : State → Except Fault State) :
    (¬Mapped (s.sp - 1) →
      outcome (s.push16 w >>= f) = .fault (.unmappedAddress (s.sp - 1) { s with sp := s.sp - 1 })) ∧
    (Mapped (s.sp - 1) → ¬Mapped (s.sp - 2) → ∃ u,
      outcome (s.push16 w >>= f) = .fault (.unmappedAddress (s.sp - 2) u) ∧
        u = { s with sp := s.sp - 2, mem := u.mem } ∧ Stored s u (s.sp - 1) (hiByte w)) := by
  refine ⟨fun h => ?_, fun h h' => ?_⟩
  · rw [State.push16_high_unmapped h]; rfl
  · obtain ⟨u, hpush, hframe, hstored⟩ := State.push16_low_unmapped h h' w
    refine ⟨u, ?_, hframe, hstored⟩
    rw [hpush]; rfl

/-- An instruction that pops first faults where its pop does (R354, D20). -/
theorem outcome_pop_unmapped (f : Word × State → Except Fault State) :
    (¬Mapped s.sp → outcome (s.pop16 >>= f) = .fault (.unmappedAddress s.sp s)) ∧
    (Mapped s.sp → ¬Mapped (s.sp + 1) →
      outcome (s.pop16 >>= f) = .fault (.unmappedAddress (s.sp + 1) { s with sp := s.sp + 1 })) := by
  refine ⟨fun h => ?_, fun h h' => ?_⟩
  · rw [State.pop16_low_unmapped h]; rfl
  · rw [State.pop16_high_unmapped h h']; rfl

end

/-- Settles O44: the first data access of each form, and the state it is met in. -/
theorem dataAccessFaults : Obligations.DataAccessFaults := by
  intro s
  refine ⟨fun h i hi => exec_hl_unmapped h hi, fun m a hm h => ?acc, fun nn h => ?low, fun nn h h' => ?high,
    fun i w hi => ?push, fun i hi => ?pop⟩
  case acc =>
    have ha : s.accAddress m = a := by rcases hm with ⟨rfl, rfl⟩ | ⟨rfl, rfl⟩ | rfl <;> rfl
    rw [← ha] at h ⊢
    exact exec_acc_unmapped h
  case low =>
    show outcome (s.writeWord nn s.sp >>= fun u => pure (u.advance 3)) = _
    rw [State.writeWord_low_unmapped h]; rfl
  case high =>
    refine ⟨s.poke nn (loByte s.sp), ?_, State.poke_eq s _ _, State.stored_poke s h _⟩
    show outcome (s.writeWord nn s.sp >>= fun u => pure (u.advance 3)) = _
    rw [State.writeWord_high_unmapped h h']; rfl
  case push =>
    rcases hi with ⟨q, rfl, rfl⟩ | ⟨nn, rfl, rfl⟩ | ⟨cc, nn, hcc, rfl, rfl⟩ | ⟨k, rfl, rfl⟩
    · rw [exec_push]; exact outcome_push_unmapped _ _
    · exact outcome_push_unmapped _ _
    · rw [exec_callCond, callIf_taken hcc]; exact outcome_push_unmapped _ _
    · rw [exec_rst]; exact outcome_push_unmapped _ _
  case pop =>
    rcases hi with ⟨q, rfl⟩ | rfl | rfl | ⟨cc, hcc, rfl⟩
    · rw [exec_pop]; exact outcome_pop_unmapped _
    · exact outcome_pop_unmapped _
    · exact outcome_pop_unmapped _
    · rw [exec_retCond, returnIf_taken hcc]; exact outcome_pop_unmapped _

end Sys2Proof.Machine
end

section
/-!
PROOFS about the PPU (47_ppu_modes.md rules R302 to R311): the steps of the tick, the PPU's position, and what leaving
each mode writes.
-/

namespace Sys2Proof.Machine

/-! ### The loop of the tick -/

/-- A tick that does not reach the budget only adds to the accumulator (R302). -/
theorem State.tick_of_lt {s : State} {c : Nat} (h : s.ppuAcc + c < budget s.ppuMode) :
    s.tick c = { s with ppuAcc := s.ppuAcc + c } := by
  rw [State.tick_eq, State.tick_zero_eq]
  exact if_neg (Nat.not_le.2 h)

/-- A tick that reaches the budget takes it off, leaves the mode and goes on (R302). -/
theorem State.tick_of_le {s : State} {c : Nat} (h : budget s.ppuMode ≤ s.ppuAcc + c) :
    s.tick c = (State.leaveMode { s with ppuAcc := s.ppuAcc + c - budget s.ppuMode }).tick 0 := by
  rw [State.tick_eq, State.tick_zero_eq]
  exact if_pos h

theorem State.tick_zero_of_lt {s : State} (h : s.ppuAcc < budget s.ppuMode) : s.tick 0 = s := State.tick_of_lt h

/-! ### The position of the PPU -/

/-- Ticks from a state whose line is one its mode has move the PPU by their sum (R311). -/
theorem State.foldl_tick_position (costs : List Nat) {s : State} (h : s.PpuInv) :
    (costs.foldl State.tick s).PpuInv ∧ (costs.foldl State.tick s).ppuPosition = s.ppuPosition + costs.sum := by
  induction costs generalizing s with
  | nil => exact ⟨h, rfl⟩
  | cons c costs ih =>
    obtain ⟨hinv, hpos⟩ := State.tick_position h.2 c
    obtain ⟨hinv', hpos'⟩ := ih hinv
    exact ⟨hinv', by rw [List.foldl_cons, hpos', hpos, List.sum_cons, Nat.add_assoc]⟩

/-- A position read back as frames, line and place within the line (R301). -/
theorem position_digits {f l o : Nat} (hl : l < 154) (ho : o < 456) :
    (70224 * f + 456 * l + o) / 456 % 154 = l ∧ (70224 * f + 456 * l + o) / 70224 = f ∧
      (70224 * f + 456 * l + o) % 456 = o := by omega

/-- The invariant keeps the line below 154 and the place within it below 456 (R34). -/
theorem State.PpuInv.bounds {s : State} (h : s.PpuInv) : s.ppuLine < 154 ∧ modeStart s.ppuMode + s.ppuAcc < 456 := by
  obtain ⟨hacc, hline⟩ := h
  unfold State.LineInv at hline
  cases hm : s.ppuMode <;> rw [hm] at hacc hline <;> simp only [budget, modeStart] at hacc hline ⊢ <;> omega

/-- The place within a visible line decides the mode (R301). -/
theorem State.PpuInv.visible {s : State} (h : s.PpuInv) (hl : s.ppuLine ≤ 143) {r : Nat}
    (hr : r = modeStart s.ppuMode + s.ppuAcc) :
    (s.ppuMode, s.ppuAcc) =
      if r < 80 then (.accessOAM, r) else if r < 252 then (.accessVRAM, r - 80) else (.hblank, r - 252) := by
  obtain ⟨hacc, hline⟩ := h
  unfold State.LineInv at hline
  cases hm : s.ppuMode <;> rw [hm] at hacc hline hr <;> simp only [budget, modeStart] at hacc hline hr
  · rw [if_pos (by omega), hr, Nat.zero_add]
  · rw [if_neg (by omega), if_pos (by omega), hr, Nat.add_sub_cancel_left]
  · rw [if_neg (by omega), if_neg (by omega), hr, Nat.add_sub_cancel_left]
  · omega

/-- A line of VBlank has one mode (R34). -/
theorem State.PpuInv.vblank {s : State} (h : s.PpuInv) (hl : 144 ≤ s.ppuLine) : s.ppuMode = .vblank := by
  obtain ⟨-, hline⟩ := h
  unfold State.LineInv at hline
  cases hm : s.ppuMode with
  | vblank => rfl
  | accessOAM | accessVRAM | hblank => rw [hm] at hline; simp only at hline; omega

/-- Settles O47: the position is the total cost, and the invariant leaves one line, mode and accumulator for it. -/
theorem tickPosition : Obligations.TickPosition := by
  rintro m fb costs s T r rfl rfl rfl
  obtain ⟨hinv, hpos⟩ := State.foldl_tick_position costs (s := State.resetWith m fb)
    ⟨show 0 < 80 by decide, Nat.zero_le 143⟩
  rw [show (State.resetWith m fb).ppuPosition = 0 from rfl, Nat.zero_add] at hpos
  generalize costs.foldl State.tick (State.resetWith m fb) = t at *
  obtain ⟨hline, hplace⟩ := hinv.bounds
  obtain ⟨hl, hf, hr⟩ := position_digits (f := t.frames.length) hline hplace
  have hsum : costs.sum = 70224 * t.frames.length + 456 * t.ppuLine + (modeStart t.ppuMode + t.ppuAcc) := by
    rw [← hpos, State.ppuPosition, Nat.add_assoc]
  rw [hsum, hl, hf, hr]
  refine ⟨rfl, rfl, fun h => hinv.visible h rfl, fun h => ?_⟩
  rw [hinv.vblank h, modeStart, Nat.zero_add]

/-- Settles O48: the instruction leaves the PPU alone, the tick moves it by the cost, and the tap leaves it alone. -/
theorem stepMovesPpuByTheCost : Obligations.StepMovesPpuByTheCost := by
  refine ⟨?_, fun s b c => State.tick_add s b c⟩
  intro cfg s t i hline hrun hfetch hstep
  rcases stepWith_next hstep with ⟨hs, -⟩ | ⟨-, i', u, hfetch', hexec, rfl⟩
  · rw [hrun] at hs; cases hs
  · obtain rfl : i = i' := Except.ok.inj (hfetch.symm.trans hfetch')
    have heffect := exec_effect i s
    rw [hexec] at heffect
    obtain ⟨e, -, -⟩ := heffect
    have huline : u.LineInv := by
      unfold State.LineInv
      rw [e.ppuMode, e.ppuLine]
      exact hline
    have hupos : u.ppuPosition = s.ppuPosition := by
      unfold State.ppuPosition
      rw [e.ppuMode, e.ppuLine, e.ppuAcc, e.frames]
    obtain ⟨⟨-, htline⟩, hpos⟩ := State.tick_position huline (cost cfg i)
    rw [State.afterExecute_eq, ← hupos]
    exact ⟨hpos, htline⟩

/-! ### Bytes of the high page -/

/-- An address of the high page has no echo: no other address resolves to its byte. -/
theorem resolve_eq_high {x a : Word} (ha : 0xFF00 ≤ a.toNat) : resolve x = resolve a ↔ x = a := by
  refine ⟨fun h => ?_, fun h => by rw [h]⟩
  obtain ⟨p, hp⟩ := resolve_of_mapped (a := a) (.inr ha)
  have hx := resolve_cases (h.trans hp)
  have ha' := resolve_cases hp
  have hlt := x.isLt
  exact BitVec.eq_of_toNat_eq (by omega)

/-- What every address reads as after a write to the high page. -/
theorem State.peek_poke_high {a : Word} (ha : 0xFF00 ≤ a.toNat) (s : State) (x : Word) (v : Byte) :
    (s.poke a v).peek x = if x = a then v else s.peek x := by
  have hm : Mapped a := .inr ha
  rw [State.peek_poke]
  exact if_congr ⟨fun h => (resolve_eq_high ha).1 h.1, fun h => ⟨(resolve_eq_high ha).2 h, hm, by omega⟩⟩ rfl rfl

theorem State.peek_setMode (s : State) (m : PpuMode) (x : Word) :
    (s.setMode m).peek x = if x = statAddr then (s.peek statAddr &&& 0xFC) ||| modeCode m else s.peek x :=
  State.peek_poke_high (by decide) { s with ppuMode := m } x _

theorem State.peek_setLine (s : State) (y : Nat) (x : Word) :
    (s.setLine y).peek x = if x = lyAddr then BitVec.ofNat 8 y else s.peek x :=
  State.peek_poke_high (by decide) { s with ppuLine := y } x _

theorem State.peek_setMemBit {a : Word} (ha : 0xFF00 ≤ a.toNat) (s : State) (i : Fin 8) (x : Word) :
    (s.setMemBit a i).peek x = if x = a then setBit (s.peek a) i else s.peek x :=
  State.peek_poke_high ha s x _

theorem State.peek_clearMemBit {a : Word} (ha : 0xFF00 ≤ a.toNat) (s : State) (i : Fin 8) (x : Word) :
    (s.clearMemBit a i).peek x = if x = a then resBit (s.peek a) i else s.peek x :=
  State.peek_poke_high ha s x _

theorem State.peek_renderLine (s : State) (y : Nat) (x : Word) : (s.renderLine y).peek x = s.peek x :=
  State.peek_congr (State.renderLine_mem s y) x

theorem State.peek_emitFrame (s : State) (x : Word) : s.emitFrame.peek x = s.peek x := rfl

/-! ### Leaving a mode -/

/-- The mode's code in STAT bits 1:0, the other bits as they were (R307). -/
theorem stat_setMode_toNat (v : Byte) (m : PpuMode) :
    ((v &&& 0xFC) ||| modeCode m).toNat = 4 * (v.toNat / 4) + (modeCode m).toNat := by
  revert v
  cases m <;> decide

theorem stat_setMode_bit (v : Byte) (m : PpuMode) {j : Nat} (hj : j < 8) :
    ((v &&& 0xFC) ||| modeCode m).getLsbD j = if j < 2 then (modeCode m).getLsbD j else v.getLsbD j := by
  revert v j
  cases m <;> decide

/-- Settles O50: one write of the mode and one of STAT. -/
theorem setModePublishesTheMode : Obligations.SetModePublishesTheMode := by
  intro s m
  refine ⟨⟨_, (s.peek statAddr &&& 0xFC) ||| modeCode m, rfl, State.setMode_eq s m, ?_, ?_⟩, fun h => ?_⟩
  · exact State.stored_poke { s with ppuMode := m } (by decide) _
  · refine (stat_setMode_toNat _ m).trans ?_
    cases m <;> rfl
  · rw [State.leaveMode, h]; rfl

/-- A state that differs in memory at most. -/
def OnlyMem (s t : State) : Prop := t = { s with mem := t.mem }

theorem OnlyMem.refl (s : State) : OnlyMem s s := rfl

theorem OnlyMem.trans {s t u : State} (h : OnlyMem s t) (h' : OnlyMem t u) : OnlyMem s u := by
  unfold OnlyMem at *
  rw [h', h]

theorem OnlyMem.setMemBit (s : State) (a : Word) (i : Fin 8) : OnlyMem s (s.setMemBit a i) := State.setMemBit_eq s a i

theorem OnlyMem.clearMemBit (s : State) (a : Word) (i : Fin 8) : OnlyMem s (s.clearMemBit a i) :=
  State.clearMemBit_eq s a i

theorem OnlyMem.ite {s t u : State} {p : Prop} [Decidable p] (h : OnlyMem s t) (h' : OnlyMem s u) :
    OnlyMem s (if p then t else u) := by split <;> assumption

/-- A bit of IF set under a condition: what every address reads as then. -/
theorem State.peek_ite_setIf (s : State) (c : Bool) (i : Fin 8) (x : Word) :
    (if c then s.setMemBit ifAddr i else s).peek x =
      if x = ifAddr ∧ c then setBit (s.peek ifAddr) i else s.peek x := by
  cases c
  · simp
  · simp [State.peek_setMemBit (a := ifAddr) (by decide)]

/-- The coincidence bit written: what every address reads as then. -/
theorem State.peek_ite_stat (s : State) (c : Bool) (x : Word) :
    (if c then s.setMemBit statAddr 2 else s.clearMemBit statAddr 2).peek x =
      if x = statAddr then (if c then setBit (s.peek statAddr) 2 else resBit (s.peek statAddr) 2) else s.peek x := by
  cases c
  · simp [State.peek_clearMemBit (a := statAddr) (by decide)]
  · simp [State.peek_setMemBit (a := statAddr) (by decide)]

/-- The registers the PPU reads and writes are at different addresses. -/
theorem ppu_addr_ne :
    statAddr ≠ ifAddr ∧ ifAddr ≠ statAddr ∧ lyAddr ≠ statAddr ∧ lyAddr ≠ ifAddr ∧ lycAddr ≠ statAddr ∧
    lycAddr ≠ ifAddr ∧ statAddr ≠ lyAddr ∧ ifAddr ≠ lyAddr := by decide

/-- The bits of STAT after the mode and the coincidence are written (R304, R307). -/
theorem stat_hblank_bit (v : Byte) (c : Bool) {j : Nat} (hj : j < 8) :
    (if c then setBit ((v &&& 0xFC) ||| modeCode .hblank) 2
      else resBit ((v &&& 0xFC) ||| modeCode .hblank) 2).getLsbD j =
      if j < 2 then false else if j = 2 then c else v.getLsbD j := by
  revert v j
  cases c <;> decide

theorem setBit_setBit (v : Byte) (i : Fin 8) : setBit (setBit v i) i = setBit v i := by
  rw [setBit, setBit, BitVec.or_assoc, BitVec.or_self]

/-- What leaving AccessVRAM leaves at every address (R304), `c` being the coincidence of LY and LYC. -/
theorem State.peek_leaveVRAM (s : State) {c : Bool} (hc : c = decide (s.peek lyAddr = s.peek lycAddr)) (x : Word) :
    s.leaveVRAM.peek x =
      if x = statAddr then
        (if c then setBit ((s.peek statAddr &&& 0xFC) ||| modeCode .hblank) 2
          else resBit ((s.peek statAddr &&& 0xFC) ||| modeCode .hblank) 2)
      else if x = ifAddr then
        (if (s.peek statAddr).getLsbD 3 || (c && (s.peek statAddr).getLsbD 6) then setBit (s.peek ifAddr) 1
          else s.peek ifAddr)
      else s.peek x := by
  obtain ⟨hsi, his, hls, hli, hcs, hci, -, -⟩ := ppu_addr_ne
  unfold State.leaveVRAM
  extract_lets s1 s2 c' s3
  have h1 (x : Word) : s1.peek x = if x = statAddr then (s.peek statAddr &&& 0xFC) ||| modeCode .hblank else s.peek x :=
    State.peek_setMode s .hblank x
  have hbit3 : (s1.peek statAddr).getLsbD 3 = (s.peek statAddr).getLsbD 3 := by
    rw [h1, if_pos rfl, stat_setMode_bit _ _ (by decide), if_neg (by decide)]
  have h2 (x : Word) : s2.peek x =
      if x = ifAddr ∧ (s.peek statAddr).getLsbD 3 then setBit (s.peek ifAddr) 1 else s1.peek x := by
    rw [← hbit3]
    refine (State.peek_ite_setIf s1 _ 1 x).trans ?_
    rw [h1 ifAddr, if_neg his]
  have hc' : c' = c := by simp only [c', h2, h1, hls, hli, hcs, hci, false_and, if_false, hc]
  have h3 (x : Word) : s3.peek x = if x = statAddr then (if c then setBit (s1.peek statAddr) 2 else
      resBit (s1.peek statAddr) 2) else s2.peek x := by
    have h2stat : s2.peek statAddr = s1.peek statAddr := by rw [h2, if_neg (fun h => hsi h.1)]
    refine (State.peek_ite_stat s2 _ x).trans ?_
    rw [hc', h2stat]
  have hbit6 : (s3.peek statAddr).getLsbD 6 = (s.peek statAddr).getLsbD 6 := by
    rw [h3, if_pos rfl, h1, if_pos rfl, stat_hblank_bit _ _ (by decide)]
    rfl
  refine (State.peek_ite_setIf s3 _ 1 x).trans ?_
  rw [hc', hbit6, h3 x, h3 ifAddr, if_neg his, h2 x, h2 ifAddr, h1 x, h1 ifAddr, if_neg his, h1 statAddr, if_pos rfl]
  by_cases hx : x = statAddr
  · subst hx
    rw [if_neg (fun h => hsi h.1), if_pos rfl, if_pos rfl]
  · by_cases hx' : x = ifAddr
    · subst hx'
      simp only [his, true_and, if_true, if_false]
      cases (s.peek statAddr).getLsbD 3 <;> cases c && (s.peek statAddr).getLsbD 6 <;> simp [setBit_setBit]
    · simp only [hx, hx', false_and, if_false]

theorem State.leaveVRAM_eq (s : State) : s.leaveVRAM = { s with ppuMode := .hblank, mem := s.leaveVRAM.mem } := by
  have h : OnlyMem (s.setMode .hblank) s.leaveVRAM := by
    unfold State.leaveVRAM
    extract_lets s1 s2 c s3
    have h2 : OnlyMem s1 s2 := .ite (.setMemBit s1 _ _) (.refl s1)
    have h3 : OnlyMem s1 s3 := h2.trans (.ite (.setMemBit s2 _ _) (.clearMemBit s2 _ _))
    exact h3.trans (.ite (.setMemBit s3 _ _) (.refl s3))
  rw [State.setMode_eq] at h
  exact h

/-- A bit set under a condition, bit by bit. -/
theorem getLsbD_ite_setBit (c : Bool) (v : Byte) (k : Fin 8) {j : Nat} (hj : j < 8) :
    (if c then setBit v k else v).getLsbD j = (v.getLsbD j || (c && decide (j = k.val))) := by
  cases c
  · simp
  · rw [if_pos rfl, getLsbD_setBit v k hj, Bool.true_and]

/-- Settles O51: each write of R304 in turn, read back at STAT, at IF and elsewhere. -/
theorem leavingAccessVRAM : Obligations.LeavingAccessVRAM := by
  rintro s t eq hmode rfl heq
  have ht : s.leaveMode = s.leaveVRAM := by rw [State.leaveMode, hmode]
  rw [ht]
  obtain ⟨hsi, his, -⟩ := ppu_addr_ne
  refine ⟨?_, fun j hj => ?_, fun j hj => ?_, fun x hx hx' => ?_⟩
  · rw [State.leaveVRAM_eq]
  · refine (congrArg (BitVec.getLsbD · j) ((State.peek_leaveVRAM s heq statAddr).trans (if_pos rfl))).trans ?_
    exact stat_hblank_bit _ _ hj
  · refine (congrArg (BitVec.getLsbD · j)
      ((State.peek_leaveVRAM s heq ifAddr).trans ((if_neg his).trans (if_pos rfl)))).trans ?_
    rw [getLsbD_ite_setBit _ _ _ hj, Bool.and_comm]
    rfl
  · exact (State.peek_leaveVRAM s heq x).trans ((if_neg hx).trans (if_neg hx'))

/-- What leaving HBlank leaves at every address (R305). -/
theorem State.peek_leaveHBlank (s : State) (x : Word) :
    s.leaveHBlank.peek x =
      if x = ifAddr then
        (if decide (s.ppuLine + 1 = 144) then setBit (s.peek ifAddr) 0 else s.peek ifAddr)
      else if x = statAddr then
        (s.peek statAddr &&& 0xFC) ||| modeCode (if s.ppuLine + 1 = 144 then .vblank else .accessOAM)
      else if x = lyAddr then BitVec.ofNat 8 (s.ppuLine + 1)
      else s.peek x := by
  obtain ⟨hsi, his, -, -, -, -, hsl, hil⟩ := ppu_addr_ne
  unfold State.leaveHBlank
  extract_lets s1 s2
  have hline : s2.ppuLine = s.ppuLine + 1 := by simp [s2, s1]
  have h2 (x : Word) : s2.peek x = if x = lyAddr then BitVec.ofNat 8 (s.ppuLine + 1) else s.peek x := by
    simp only [s2, s1]
    rw [State.peek_setLine, State.renderLine_ppuLine, State.peek_renderLine]
  rw [hline]
  by_cases h144 : s.ppuLine + 1 = 144
  · simp only [if_pos h144, decide_eq_true h144, if_true]
    rw [State.peek_setMemBit (a := ifAddr) (by decide), State.peek_setMode, State.peek_setMode, if_neg his, h2, h2, h2,
      if_neg hil, if_neg hsl]
  · simp only [if_neg h144, decide_eq_false h144, Bool.false_eq_true, if_false]
    rw [State.peek_setMode, h2, h2, if_neg hsl]
    by_cases hx : x = ifAddr
    · subst hx
      rw [if_neg his, if_neg hil, if_pos rfl]
    · rw [if_neg hx]

theorem State.leaveHBlank_eq (s : State) :
    s.leaveHBlank = { s with
      ppuLine := s.ppuLine + 1
      ppuMode := if s.ppuLine + 1 = 144 then .vblank else .accessOAM
      fb := (s.renderLine s.ppuLine).fb
      mem := s.leaveHBlank.mem } := by
  unfold State.leaveHBlank
  extract_lets s1 s2
  have h2 : s2 = { s with ppuLine := s.ppuLine + 1, fb := (s.renderLine s.ppuLine).fb, mem := s2.mem } := by
    simp only [s2, s1]
    rw [State.setLine_eq, State.renderLine_ppuLine, State.renderLine_eq]
  have hline : s2.ppuLine = s.ppuLine + 1 := by rw [h2]
  rw [hline]
  split
  · rw [State.setMemBit_eq, State.setMode_eq, h2]
  · rw [State.setMode_eq, h2]

/-- Settles O52: the line rendered, and then each write of R305 in turn. -/
theorem leavingHBlank : Obligations.LeavingHBlank := by
  rintro s t hmode rfl
  obtain ⟨hsi, his, hls, hli, -, -, hsl, hil⟩ := ppu_addr_ne
  have ht : s.leaveMode = s.leaveHBlank := by rw [State.leaveMode, hmode]
  have hpeek := State.peek_leaveHBlank s
  rw [ht]
  refine ⟨State.leaveHBlank_eq s, ?ly, ?stat, fun j hj => ?iff, fun x hly hstat hif => ?other⟩
  case ly => exact (hpeek lyAddr).trans (by rw [if_neg hli, if_neg hls, if_pos rfl])
  case stat =>
    have hcode : (modeCode (if s.ppuLine + 1 = 144 then .vblank else .accessOAM)).toNat =
        if s.ppuLine + 1 = 144 then 1 else 2 := by split <;> rfl
    refine (congrArg BitVec.toNat ((hpeek statAddr).trans ((if_neg hsi).trans (if_pos rfl)))).trans ?_
    exact (stat_setMode_toNat _ _).trans (by rw [hcode]; rfl)
  case iff =>
    refine (congrArg (BitVec.getLsbD · j) ((hpeek ifAddr).trans (if_pos rfl))).trans ?_
    rw [getLsbD_ite_setBit _ _ _ hj, Bool.decide_and, Bool.and_comm]
    rfl
  case other => exact (hpeek x).trans ((if_neg hif).trans ((if_neg hstat).trans (if_neg hly)))

/-- What leaving a line of VBlank leaves at every address (R306). -/
theorem State.peek_leaveVBlank (s : State) (x : Word) :
    s.leaveVBlank.peek x =
      if x = statAddr then
        (if s.ppuLine + 1 = 154 then (s.peek statAddr &&& 0xFC) ||| modeCode .accessOAM else s.peek statAddr)
      else if x = lyAddr then BitVec.ofNat 8 (if s.ppuLine + 1 = 154 then 0 else s.ppuLine + 1)
      else s.peek x := by
  obtain ⟨-, -, hls, -, -, -, hsl, -⟩ := ppu_addr_ne
  unfold State.leaveVBlank
  extract_lets s1
  have hline : s1.ppuLine = s.ppuLine + 1 := State.setLine_ppuLine s _
  have h1 (x : Word) : s1.peek x = if x = lyAddr then BitVec.ofNat 8 (s.ppuLine + 1) else s.peek x :=
    State.peek_setLine s _ x
  rw [hline]
  by_cases h154 : s.ppuLine + 1 = 154
  · simp only [if_pos h154]
    rw [State.peek_setMode, State.peek_setLine, State.peek_setLine, if_neg hsl, State.peek_emitFrame,
      State.peek_emitFrame, h1, h1, if_neg hsl]
    by_cases hx : x = lyAddr
    · subst hx
      rw [if_neg hls, if_pos rfl, if_neg hls, if_pos rfl]
    · simp only [hx, if_false]
  · simp only [if_neg h154]
    rw [h1]
    by_cases hx : x = statAddr
    · subst hx
      rw [if_neg hsl, if_pos rfl]
    · rw [if_neg hx]

theorem State.leaveVBlank_eq (s : State) (hmode : s.ppuMode = .vblank) :
    s.leaveVBlank = { s with
      ppuLine := if s.ppuLine + 1 = 154 then 0 else s.ppuLine + 1
      ppuMode := if s.ppuLine + 1 = 154 then .accessOAM else .vblank
      frames := if s.ppuLine + 1 = 154 then s.frames ++ [s.fb] else s.frames
      mem := s.leaveVBlank.mem } := by
  unfold State.leaveVBlank
  extract_lets s1
  have h1 : s1 = { s with ppuLine := s.ppuLine + 1, mem := s1.mem } := State.setLine_eq s _
  have hline : s1.ppuLine = s.ppuLine + 1 := State.setLine_ppuLine s _
  rw [hline]
  split
  · rw [State.setMode_eq, State.setLine_eq, h1]; rfl
  · rw [h1, hmode]

/-- Settles O53: each write of R306 in turn. -/
theorem leavingVBlank : Obligations.LeavingVBlank := by
  rintro s t hmode rfl
  obtain ⟨-, -, hls, -, -, -, -, -⟩ := ppu_addr_ne
  have ht : s.leaveMode = s.leaveVBlank := by rw [State.leaveMode, hmode]
  have hpeek := State.peek_leaveVBlank s
  have hframe := State.leaveVBlank_eq s hmode
  rw [ht]
  refine ⟨hframe, ?ly, ?stat, fun x hly hstat => ?other⟩
  case ly =>
    have hline : s.leaveVBlank.ppuLine = if s.ppuLine + 1 = 154 then 0 else s.ppuLine + 1 := by rw [hframe]
    rw [hline]
    exact (hpeek lyAddr).trans (by rw [if_neg hls, if_pos rfl])
  case stat =>
    refine (congrArg BitVec.toNat ((hpeek statAddr).trans (if_pos rfl))).trans ?_
    split
    · exact stat_setMode_toNat _ _
    · rfl
  case other => exact (hpeek x).trans ((if_neg hstat).trans (if_neg hly))

end Sys2Proof.Machine
end

section
/-!
PROOFS about the tick as a whole and the serial tap (47_ppu_modes.md rules R302, R310, 49_machine_step.md rules R353,
R355): the loop, what a tick may write, what the tap does, and that the two commute.
-/

namespace Sys2Proof.Machine

/-! ### What a tick writes -/

/-- IF as a tick may leave it: bits 0 and 1 set at most, the others as they were (R39, R310). -/
def IfOnlySet (v w : Byte) : Prop :=
  ∀ j < 8, if j < 2 then v.getLsbD j = true → w.getLsbD j = true else w.getLsbD j = v.getLsbD j

theorem IfOnlySet.setBit {v w : Byte} (h : IfOnlySet v w) {i : Fin 8} (hi : i = 0 ∨ i = 1) :
    IfOnlySet v (Machine.setBit w i) := by
  intro j hj
  have hw := h j hj
  rw [getLsbD_setBit w i hj]
  split <;> rename_i hj2
  · rw [if_pos hj2] at hw
    intro hv
    rw [hw hv, Bool.true_or]
  · rw [if_neg hj2] at hw
    have hne : j ≠ i.val := by rcases hi with rfl | rfl <;> simp <;> omega
    rw [hw, decide_eq_false hne, Bool.or_false]

/-- A tick clears no bit of IF and writes none but bits 0 and 1. -/
theorem State.ifOnlySet_tick (s : State) (c : Nat) : IfOnlySet (s.peek ifAddr) ((s.tick c).peek ifAddr) := by
  obtain ⟨-, his, -, -, -, -, -, hil⟩ := ppu_addr_ne
  refine State.tick_induct (P := fun t => IfOnlySet (s.peek ifAddr) (t.peek ifAddr)) ?start fun t ht _ => ?pass
  case start => intro j hj; split; exacts [id, rfl]
  case pass =>
    refine State.leaveMode_induct (P := fun t => IfOnlySet (s.peek ifAddr) (t.peek ifAddr)) ?_ ?_ ?_ ?_ ?_ ?_ ?_ ht
    · intro t m h; rw [State.peek_setMode, if_neg his]; exact h
    · intro t y h; rw [State.peek_setLine, if_neg hil]; exact h
    · intro t i hi h; rw [State.peek_setMemBit (a := ifAddr) (by decide), if_pos rfl]; exact h.setBit hi
    · intro t h; rw [State.peek_setMemBit (a := statAddr) (by decide), if_neg his]; exact h
    · intro t h; rw [State.peek_clearMemBit (a := statAddr) (by decide), if_neg his]; exact h
    · intro t y h; rw [State.peek_renderLine]; exact h
    · intro t h; exact h

/-- Settles O55: a tick changes the devices only, and of memory IF, STAT and LY only. -/
theorem tickWritesOnlyItsRegisters : Obligations.TickWritesOnlyItsRegisters := by
  intro s c
  have h := OnlyDevices.tick s c
  unfold OnlyDevices at h
  refine ⟨fun r => ?_, by rw [h], by rw [h], by rw [h], by rw [h], by rw [h], by rw [h],
    fun x hif hstat hly => State.peek_tick s c x hif hstat hly, State.ifOnlySet_tick s c⟩
  rw [h]; cases r <;> rfl

/-! ### The serial tap -/

/-- The tap appends at most one byte to the text (R355). -/
theorem State.text_serialTap (s : State) (cfg : Config) :
    (s.serialTap cfg).text = s.text ∨ ∃ v, (s.serialTap cfg).text = s.text ++ [v] := by
  rcases State.serialTap_cases s cfg with ⟨-, he⟩ | ⟨-, he⟩ <;> rw [he]
  · exact .inr ⟨_, rfl⟩
  · exact .inl rfl

theorem State.text_tick (s : State) (c : Nat) : (s.tick c).text = s.text := by
  have h := OnlyDevices.tick s c
  unfold OnlyDevices at h
  rw [h]

theorem State.serialTap_of_eq {s : State} {cfg : Config} (h : s.peek scAddr = cfg.serialSentinel) :
    s.serialTap cfg = { s.poke scAddr 0 with text := s.text ++ [s.peek sbAddr] } := by
  rcases State.serialTap_cases s cfg with ⟨-, he⟩ | ⟨hne, -⟩
  · exact he
  · exact absurd h hne

/-! ### The tick and the tap commute -/

/-- The tap is seen by no part of the PPU: it writes SC and the text only (R355). -/
theorem ppuAlike_serialTap (s : State) (cfg : Config) : PpuAlike s (s.serialTap cfg) := by
  have hframe := State.serialTap_eq s cfg
  refine ⟨by rw [hframe], by rw [hframe], by rw [hframe], by rw [hframe], by rw [hframe], fun x hx => ?_⟩
  exact State.peek_serialTap s cfg x (fun h => hx (by rw [h]))

theorem resolve_of_backing {p : Nat} (h : isBacking p = true) : resolve (BitVec.ofNat 16 p) = some p := by
  simp only [isBacking, Bool.or_eq_true, Bool.and_eq_true, decide_eq_true_eq] at h
  have hp : (BitVec.ofNat 16 p).toNat = p := by rw [BitVec.toNat_ofNat]; omega
  unfold resolve
  rw [hp]
  exact (if_neg (by omega)).trans (if_neg (by omega))

theorem Memory.get_of_not_backing {m : Memory} (h : m.backed) {p : Nat} (hp : isBacking p ≠ true) :
    Memory.get m p = Memory.unlisted := by
  induction m with
  | nil => rfl
  | cons cell rest ih =>
    obtain ⟨k, v⟩ := cell
    have hk : p ≠ k := fun he => hp (he ▸ h (k, v) (by simp))
    rw [Memory.get_cons, if_neg hk]
    exact ih fun c hc => h c (by simp [hc])

/-- Memory in its canonical form over backing addresses is what the addresses read as (R58). -/
theorem State.mem_ext {s t : State} (hs : s.MemInv) (ht : t.MemInv) (h : ∀ x, s.peek x = t.peek x) : s.mem = t.mem := by
  refine Memory.ext_of_wf hs.1 ht.1 fun p => ?_
  by_cases hp : isBacking p = true
  · have hr := resolve_of_backing hp
    rw [← State.peek_eq hr, ← State.peek_eq hr, h]
  · rw [Memory.get_of_not_backing hs.2 hp, Memory.get_of_not_backing ht.2 hp]

/-- What the tap does to the text and to SC depends on SB and SC only, which no tick writes. -/
theorem State.serialTap_tick (s : State) (cfg : Config) (c : Nat) :
    ((s.tick c).serialTap cfg).text = (s.serialTap cfg).text ∧
      ((s.tick c).serialTap cfg).peek scAddr = (s.serialTap cfg).peek scAddr := by
  have hsc : (s.tick c).peek scAddr = s.peek scAddr := State.peek_tick s c _ (by decide) (by decide) (by decide)
  have hsb : (s.tick c).peek sbAddr = s.peek sbAddr := State.peek_tick s c _ (by decide) (by decide) (by decide)
  rcases State.serialTap_cases s cfg with ⟨h, he⟩ | ⟨h, he⟩
  · have hcleared (t : State) (text : List Byte) : State.peek { t.poke scAddr 0 with text := text } scAddr = 0 :=
      (State.peek_poke_high (by decide) t scAddr 0).trans (if_pos rfl)
    rw [State.serialTap_of_eq (s := s.tick c) (hsc.trans h), State.serialTap_of_eq h, hcleared, hcleared, hsb,
      State.text_tick]
    exact ⟨rfl, rfl⟩
  · have he' : (s.tick c).serialTap cfg = s.tick c := if_neg (hsc ▸ h)
    rw [he, he']
    exact ⟨State.text_tick s c, hsc⟩

/-- A state that differs in the devices, the memory and the outputs at most: the processor is as it was. -/
def SameProcessor (s t : State) : Prop :=
  t = { s with ppuLine := t.ppuLine, ppuMode := t.ppuMode, ppuAcc := t.ppuAcc, fb := t.fb, mem := t.mem,
               text := t.text, frames := t.frames }

theorem SameProcessor.trans {s t u : State} (h : SameProcessor s t) (h' : SameProcessor t u) : SameProcessor s u := by
  unfold SameProcessor at *
  rw [h', h]

theorem SameProcessor.tick (s : State) (c : Nat) : SameProcessor s (s.tick c) := by
  have h := OnlyDevices.tick s c
  unfold OnlyDevices at h
  unfold SameProcessor
  rw [h]

theorem SameProcessor.serialTap (s : State) (cfg : Config) : SameProcessor s (s.serialTap cfg) := by
  unfold SameProcessor
  rw [State.serialTap_eq]

/-- Settles O57: the PPU sees nothing the tap writes, the tap nothing the PPU writes, and memory in its canonical form is
what it reads as. -/
theorem tickAndTapCommute : Obligations.TickAndTapCommute := by
  intro cfg s c hmem
  obtain ⟨htext, hsc⟩ := State.serialTap_tick s cfg c
  have halike := (ppuAlike_serialTap s cfg).tick c
  have hmemory : ((s.tick c).serialTap cfg).mem = ((s.serialTap cfg).tick c).mem := by
    refine State.mem_ext (State.memInv_serialTap (State.memInv_tick hmem c) cfg)
      (State.memInv_tick (State.memInv_serialTap hmem cfg) c) fun x => ?_
    by_cases hx : x = scAddr
    · subst hx
      rw [hsc, State.peek_tick _ c _ (by decide) (by decide) (by decide)]
    · rw [State.peek_serialTap _ cfg x hx]
      exact (halike.read x (fun h => hx ((resolve_eq_high (by decide)).1 h))).symm
  have hleft : SameProcessor s ((s.tick c).serialTap cfg) := (SameProcessor.tick s c).trans (.serialTap _ cfg)
  have hright : SameProcessor s ((s.serialTap cfg).tick c) := (SameProcessor.serialTap s cfg).trans (.tick _ c)
  have hdevices := ppuAlike_serialTap (s.tick c) cfg
  rw [hleft, hright, hmemory, htext, State.text_tick, hdevices.line, hdevices.mode, hdevices.acc, hdevices.fb,
    hdevices.frames, halike.line, halike.mode, halike.acc, halike.fb, halike.frames]

end Sys2Proof.Machine

namespace Sys2Proof

open Machine

/-- Settles O46: the loop unrolled once, and its end. -/
theorem tickLoop : Obligations.TickLoop := by
  intro s c
  refine ⟨⟨rfl, rfl, rfl, rfl⟩, State.tick_of_lt, State.tick_of_le, tickLoop_lt _ (Nat.le_refl _),
    State.tick_zero_of_lt, fun hacc hc hle => ?_⟩
  rw [State.tick_of_le hle]
  refine State.tick_zero_of_lt ?_
  have hbudget := budget_pos (State.leaveMode { s with ppuAcc := s.ppuAcc + c - budget s.ppuMode }).ppuMode
  rw [State.leaveMode_ppuAcc]
  dsimp only
  omega

/-- Settles O56: the tap by its case, and the text of a step is that of the tap. -/
theorem serialTap : Obligations.SerialTap := by
  refine ⟨fun cfg s => ⟨fun h => ⟨_, State.serialTap_of_eq h, ?frame, ?stored⟩, fun h => if_neg h⟩,
    fun cfg s t h => ?text⟩
  case frame => rw [State.poke_eq]; rfl
  case stored => exact (State.stored_poke s (by decide) 0).congr rfl
  case text =>
    rcases stepWith_next h with ⟨-, rfl⟩ | ⟨-, i, u, -, hexec, rfl⟩
    · exact .inl rfl
    · have heffect := exec_effect i s
      rw [hexec] at heffect
      rw [← heffect.1.text, ← State.text_tick u (cost cfg i)]
      exact State.text_serialTap _ cfg

end Sys2Proof
end

section
/-!
PROOFS about the renderer (48_renderer.md rules R330 to R336): the addresses it computes as numbers, a pixel of a tile as
its two bitplanes, and the row a rendered line is.
-/

namespace Sys2Proof.Machine

/-! ### Addresses -/

theorem mapBase_add (sel : Bool) (n : Nat) :
    mapBase sel + BitVec.ofNat 16 n = BitVec.ofNat 16 ((if sel then 0x9C00 else 0x9800) + n) := by
  cases sel <;> rw [BitVec.ofNat_add] <;> rfl

/-- A tile's address by unsigned indexing from 0x8000 or signed indexing from 0x9000 (R332). -/
theorem tileAddress_eq (unsignedIndex : Bool) (idx : Byte) :
    tileAddress unsignedIndex idx = BitVec.ofNat 16 (if unsignedIndex then 0x8000 + 16 * idx.toNat
      else if idx.toNat < 128 then 0x9000 + 16 * idx.toNat else 0x9000 + 16 * idx.toNat - 16 * 256) := by
  revert idx
  cases unsignedIndex <;> decide

/-! ### Pixels -/

theorem bitplanes_toNat (hi lo : Bool) : (BitVec.ofBool hi ++ BitVec.ofBool lo).toNat = 2 * hi.toNat + lo.toNat := by
  cases hi <;> cases lo <;> rfl

/-- A pixel of a tile by the map cell, the tile row and the two bitplanes, `rd` reading the byte at an address (R332,
R333). -/
def tileNumber (rd : Nat → Byte) (lcdc : Byte) (sel : Bool) (cx cy : Nat) : Nat :=
  let map := if sel then 0x9C00 else 0x9800
  let idx := (rd (map + cy / 8 * 32 + cx / 8)).toNat
  let tile := if lcdc.getLsbD 4 then 0x8000 + 16 * idx
    else if idx < 128 then 0x9000 + 16 * idx else 0x9000 + 16 * idx - 16 * 256
  let lo := rd (tile + 2 * (cy % 8))
  let hi := rd (tile + 2 * (cy % 8) + 1)
  2 * (hi.getLsbD (7 - cx % 8)).toNat + (lo.getLsbD (7 - cx % 8)).toNat

theorem tilePixel_toNat (s : State) (lcdc : Byte) (sel : Bool) (cx cy : Nat) :
    (tilePixel s lcdc (mapBase sel) cx cy).toNat =
      tileNumber (fun n => s.peek (BitVec.ofNat 16 n)) lcdc sel cx cy := by
  have hrow (a n : Nat) : BitVec.ofNat 16 a + BitVec.ofNat 16 (n * 2) = BitVec.ofNat 16 (a + 2 * n) := by
    rw [← BitVec.ofNat_add, Nat.mul_comm]
  have hnext (a : Nat) : BitVec.ofNat 16 a + 1 = BitVec.ofNat 16 (a + 1) := (BitVec.ofNat_add a 1).symm
  unfold tilePixel tileNumber
  simp only [bitplanes_toNat, mapBase_add, tileAddress_eq, hrow, hnext, ← Nat.add_assoc]

/-- The window is drawn where its bit of LCDC is set and the column and the line have reached it (R334, R335). -/
theorem windowCovers_eq (s : State) (y x : Nat) :
    windowCovers s y x = ((s.peek lcdcAddr).getLsbD 5 &&
      decide ((s.peek wyAddr).toNat ≤ y ∧ (s.peek wxAddr).toNat ≤ x + 7)) := by
  rw [windowCovers, Bool.decide_and, Bool.and_assoc]

/-- The pixel of a column: the window's tile pixel where the window is drawn, else the background's (R330). -/
theorem linePixel_toNat (s : State) (y x : Nat) :
    (linePixel s y x).toNat =
      tileNumber (fun n => s.peek (BitVec.ofNat 16 n)) (s.peek lcdcAddr)
        (if windowCovers s y x then (s.peek lcdcAddr).getLsbD 6 else (s.peek lcdcAddr).getLsbD 3)
        (if windowCovers s y x then x + 7 - (s.peek wxAddr).toNat else (x + (s.peek scxAddr).toNat) % 256)
        (if windowCovers s y x then y - (s.peek wyAddr).toNat else (y + (s.peek scyAddr).toNat) % 256) := by
  unfold linePixel
  split
  · exact tilePixel_toNat s _ _ _ _
  · exact tilePixel_toNat s _ _ _ _

/-! ### The row -/

theorem State.renderLine_fb {y : Nat} (hy : y < 144) (s : State) :
    (s.renderLine y).fb = s.fb.set y (Vector.ofFn fun x => linePixel s y x.val) hy := by
  rw [State.renderLine, dif_pos hy]

/-- Settles O54: the row is `linePixel` of each column, the other rows stay. -/
theorem renderedLine : Obligations.RenderedLine := by
  intro s y hy
  refine ⟨State.renderLine_eq s y, fun y' hy' hne => ?other, fun x hx => ?pixel⟩
  case other =>
    simp only [State.renderLine_fb hy]
    exact Vector.getElem_set_ne hy hy' hne.symm
  case pixel =>
    have hpixel : (s.renderLine y).fb[y][x] = linePixel s y x := by
      simp only [State.renderLine_fb hy, Vector.getElem_set_self, Vector.getElem_ofFn]
    intro rd lcdc wy wx window cx cy map idx tile lo hi
    rw [hpixel, linePixel_toNat, windowCovers_eq]
    rfl

end Sys2Proof.Machine
end
